-- ==== Sys2Proof/Word.lean ====
section
/-! DEFINITION. The word types of the block (R8, R10, R12): every register and memory element is an unsigned bit
pattern; bit 0 is the least significant bit (R9). -/

namespace Sys2Proof

/-- One byte of a memory as a platform shows it (R65). -/
abbrev Byte := BitVec 8

/-- A binary16 pattern, D0's `HalfFloat` (R8, R10). -/
abbrev Half := BitVec 16

/-- A 32-bit word: a command word, a binary32 pattern, a PRNG word, an extent (R8). -/
abbrev Word := BitVec 32

/-- A 64-bit word: a binary64 pattern, or the contents of `RES` (R8). -/
abbrev Dword := BitVec 64

/-- A 4-bit dtype tag (R8, R99). -/
abbrev Tag := BitVec 4

end Sys2Proof
end

