-- ==== Sys2Proof/Config.lean ====
section
/-! DEFINITION. The parameters of the hardware (R7, R40) and the free values of the model. The parameters that are
plain data are gathered in `Hardware`, which the state carries unchanged, so that a statement about every state is a
statement about every instance of the hardware (log entries 3, 4, 5). -/

namespace Sys2Proof

/-- A term over the 32-bit operations of R120 and the four old state words `a b c d`: what R174 lets an instance of
`PRNG_STEP` be built from, and nothing else. A shift count is 0 to 31 (R120). -/
inductive PrngExpr where
  | a | b | c | d
  | lit (w : Word)
  | add (x y : PrngExpr)
  | xor (x y : PrngExpr)
  | or (x y : PrngExpr)
  | shl (x : PrngExpr) (n : Fin 32)
  | shr (x : PrngExpr) (n : Fin 32)
  | rotl (x : PrngExpr) (n : Fin 32)
deriving DecidableEq, Repr

/-- An instance of the parameter `PRNG_STEP : (a, b, c, d) -> (a', b', c', d', t)` (R7, R174): one term for each of its
five results. -/
structure PrngProgram where
  a : PrngExpr
  b : PrngExpr
  c : PrngExpr
  d : PrngExpr
  t : PrngExpr
deriving DecidableEq, Repr

/-- Which instance of the parameters `LN64` and `COS64` the hardware has (R7, R135, R136): the default, or any other
that meets the properties those two rules demand (its values are the free values below). -/
inductive RealFns where
  | correctlyRounded
  | other
deriving DecidableEq, Repr

/-- The parameters of R7, fixed for the life of the hardware (R40). -/
structure Hardware where
  /-- `E_MAX`, the largest element count of one batch slot (R7). -/
  eMax : Nat
  /-- `N_MAX`, the largest iteration count the schedule store holds (R7). -/
  nMax : Nat
  /-- `PRNG_STEP` (R7, R174). -/
  prngStep : PrngProgram
  /-- `LN64` and `COS64` (R7, R135, R136). -/
  reals : RealFns
deriving DecidableEq, Repr

/-- R7's constraints on the capacities: `E_MAX >= 1`, `1 <= N_MAX <= 65535`. -/
abbrev Hardware.legal (h : Hardware) : Prop := 1 ≤ h.eMax ∧ 1 ≤ h.nMax ∧ h.nMax ≤ 65535

namespace Config

/-- `E_MAX - 1` of the machine that `State.reset` stands for: R7 gives no default (log entry 3). -/
opaque eMaxPred : Nat

/-- `N_MAX - 1` of the machine that `State.reset` stands for: R7 gives no default (log entry 3). -/
opaque nMaxPred : Fin 65535

/-- `E_MAX`, at least 1 (R7). -/
def eMax : Nat := eMaxPred + 1

/-- `N_MAX`, 1 to 65535 (R7). -/
def nMax : Nat := nMaxPred.val + 1

/-- Free value (U4 of 93_implementation_defined.md): what the n-th `TSTEP` with an unspecified result leaves in `RES`
(R124, R206; log entry 6). -/
opaque freeTimestep : Nat → Dword

/-- Free value: one less than the magnitude pattern of another instance's `LN64` on an operand between 0 and 1, where
R135 demands a finite negative result and nothing more (log entry 5). -/
opaque lnBelowOne : Dword → Fin 0x7FEFFFFFFFFFFFFF

/-- Free value: another instance's `LN64` on a finite operand above 1, where R135 demands nothing but a value of the
operand alone (log entry 5). -/
opaque lnAboveOne : Dword → Dword

/-- Free value: the sign of another instance's `COS64` on a finite nonzero operand (R136; log entry 5). -/
opaque cosNegative : Dword → Bool

/-- Free value: the magnitude pattern of another instance's `COS64` on a finite nonzero operand; at most the pattern of
1.0, since R136 puts the result in `[-1, 1]` (log entry 5). -/
opaque cosMagnitude : Dword → Fin 0x3FF0000000000001

end Config

end Sys2Proof
end

