-- ==== Sys2Proof/Machine/Float.lean ====
section
/-! DEFINITION. binary64 arithmetic and the conversions between the formats (R100 to R102, R124 to R134, R137 to R140).
A finite value is held exactly, as a sign and a natural count of the format's smallest positive value (its UNIT: `2^-24`
for binary16, `2^-149` for binary32, `2^-1074` for binary64); every operation computes the exact result and rounds it once
(R125, R138). -/

namespace Sys2Proof.Machine

open Sys2Proof

/-- The extended real that a pattern stands for (R10): a finite value is `(-1)^neg * units * UNIT`; a zero keeps its
sign. -/
inductive FpVal where
  | nan
  | inf (neg : Bool)
  | fin (neg : Bool) (units : Nat)
deriving DecidableEq, Repr

/-- The units of a finite value with exponent field `e` and fraction `f` of `fbits` bits: `f` for `e = 0`, otherwise
`(2^fbits + f) * 2^(e-1)` (R100, R101, R102). -/
def unitsOf (fbits e f : Nat) : Nat := if e = 0 then f else (2 ^ fbits + f) * 2 ^ (e - 1)

/-- The value of a sign, an exponent field and a fraction, `top` the exponent field of infinities and NaNs. -/
def valOf (fbits top : Nat) (neg : Bool) (e f : Nat) : FpVal :=
  if e = top then (if f = 0 then .inf neg else .nan) else .fin neg (unitsOf fbits e f)

/-- `val16(h)` in units of `2^-24` (R100). -/
def val16 (h : Half) : FpVal := valOf 10 31 h.msb (h.extractLsb' 10 5).toNat (h.extractLsb' 0 10).toNat

/-- `val32(x)` in units of `2^-149` (R101). -/
def val32 (x : Word) : FpVal := valOf 23 255 x.msb (x.extractLsb' 23 8).toNat (x.extractLsb' 0 23).toNat

/-- `val64(d)` in units of `2^-1074` (R102). -/
def val64 (d : Dword) : FpVal := valOf 52 2047 d.msb (d.extractLsb' 52 11).toNat (d.extractLsb' 0 52).toNat

/-- Round to nearest, ties to even (R125). The exact magnitude is `num / den` units, `den > 0`; the result is the
magnitude pattern (exponent and fraction fields as one number) in a format of `fbits` fraction bits whose infinity has the
magnitude pattern `infMag`. The grid near the magnitude is `2^q` units, `q = 0` in the subnormal range. -/
def roundUnits (fbits infMag num den : Nat) : Nat :=
  let q := Nat.log2 (num / den) - fbits
  let grid := den * 2 ^ q
  let n := num / grid
  let r := num % grid
  let n' := if grid < 2 * r ∨ (2 * r = grid ∧ n % 2 = 1) then n + 1 else n
  min (q * 2 ^ fbits + n') infMag

/-- The magnitude pattern of the binary64 infinity. -/
def infMag64 : Nat := 0x7FF0000000000000

/-- A sign and a magnitude pattern as a binary64 pattern. -/
def pack64 (neg : Bool) (mag : Nat) : Dword := BitVec.ofBool neg ++ BitVec.ofNat 63 mag

/-- The binary64 nearest to `num / den` units of `2^-1074`, with a sign (R125). -/
def round64 (neg : Bool) (num den : Nat) : Dword := pack64 neg (roundUnits 52 infMag64 num den)

/-- The canonical quiet NaN of a binary64 result (R130). -/
def canonNaN64 : Dword := 0x7FF8000000000000

/-- The canonical quiet NaN of a binary32 result (R130). -/
def canonNaN32 : Word := 0x7FC00000

/-- The infinity of a sign. -/
def inf64 (neg : Bool) : Dword := pack64 neg infMag64

/-- The zero of a sign. -/
def zero64 (neg : Bool) : Dword := pack64 neg 0

/-- `ONE64` (R137). -/
def ONE64 : Dword := 0x3FF0000000000000

/-- `NEG_TWO64` (R137). -/
def NEG_TWO64 : Dword := 0xC000000000000000

/-- `PI64` (R137). -/
def PI64 : Dword := 0x400921FB54442D18

/-- `TWO_PI64` (R137). -/
def TWO_PI64 : Dword := 0x401921FB54442D18

/-- A signed count of units as an integer. -/
def signedUnits (neg : Bool) (units : Nat) : Int := if neg then -(units : Int) else (units : Int)

/-- `fadd64(x, y)` (R126, R131). -/
def fadd64 (x y : Dword) : Dword :=
  match val64 x, val64 y with
  | .nan, _ => canonNaN64
  | _, .nan => canonNaN64
  | .inf a, .inf b => if a = b then inf64 a else canonNaN64
  | .inf a, .fin _ _ => inf64 a
  | .fin _ _, .inf b => inf64 b
  | .fin a m, .fin b n =>
    let sum := signedUnits a m + signedUnits b n
    if sum = 0 then zero64 (a && b) else round64 (decide (sum < 0)) sum.natAbs 1

/-- `neg` of R126: bit 63 of a non-NaN flipped. -/
def fneg64 (x : Dword) : Dword := if val64 x = .nan then x else x ^^^ 0x8000000000000000

/-- `fsub64(x, y) = fadd64(x, neg(y))` (R126). -/
def fsub64 (x y : Dword) : Dword := fadd64 x (fneg64 y)

/-- `fmul64(x, y)` (R127). A product of units counts `2^-2148`. -/
def fmul64 (x y : Dword) : Dword :=
  match val64 x, val64 y with
  | .nan, _ => canonNaN64
  | _, .nan => canonNaN64
  | .inf a, .inf b => inf64 (a ^^ b)
  | .inf a, .fin b n => if n = 0 then canonNaN64 else inf64 (a ^^ b)
  | .fin a m, .inf b => if m = 0 then canonNaN64 else inf64 (a ^^ b)
  | .fin a m, .fin b n => round64 (a ^^ b) (m * n) (2 ^ 1074)

/-- `fdiv64(x, y)` (R128). A quotient of units is a pure number, `2^1074` units each. -/
def fdiv64 (x y : Dword) : Dword :=
  match val64 x, val64 y with
  | .nan, _ => canonNaN64
  | _, .nan => canonNaN64
  | .inf _, .inf _ => canonNaN64
  | .inf a, .fin b _ => inf64 (a ^^ b)
  | .fin a _, .inf b => zero64 (a ^^ b)
  | .fin a m, .fin b n =>
    if n = 0 then (if m = 0 then canonNaN64 else inf64 (a ^^ b))
    else round64 (a ^^ b) (m * 2 ^ 1074) n

/-- The integer square root of `n`, found bit by bit below bit `k`, starting from `r`: the largest `r + x` with `x < 2^k`
whose square is at most `n`. -/
def isqrtBits : Nat → Nat → Nat → Nat
  | 0, _, r => r
  | k + 1, n, r => isqrtBits k n (if (r + 2 ^ k) * (r + 2 ^ k) ≤ n then r + 2 ^ k else r)

/-- The magnitude pattern of the correctly rounded square root of `m * 2^e` units, `m < 2^53` (R129). With `e' = e + 1074`
made even, the root is `sqrt(m * 2^128) / 2^64 * 2^(e'/2)` units; where that is not an integer over `2^64`, half a step is
added, which lies on no grid point and no tie. -/
def sqrtMag (m e : Nat) : Nat :=
  let p := e + 1074
  let t := (if p % 2 = 1 then 2 * m else m) * 2 ^ 128
  let r := isqrtBits 92 t 0
  let twice := if r * r = t then 2 * r else 2 * r + 1
  roundUnits 52 infMag64 (twice * 2 ^ (p / 2)) (2 ^ 65)

/-- `fsqrt64(x)` (R129). -/
def fsqrt64 (x : Dword) : Dword :=
  match val64 x with
  | .nan => canonNaN64
  | .inf a => if a then canonNaN64 else inf64 false
  | .fin a u =>
    if u = 0 then zero64 a
    else if a then canonNaN64
    else
      let e := (x.extractLsb' 52 11).toNat
      let f := (x.extractLsb' 0 52).toNat
      pack64 false (sqrtMag (if e = 0 then f else 2 ^ 52 + f) (e - 1))

/-- `widen(x)`, binary32 to binary64, exact (R132). -/
def widen (x : Word) : Dword :=
  let s := BitVec.ofBool x.msb
  let e := (x.extractLsb' 23 8).toNat
  let f := x.extractLsb' 0 23
  if e = 255 then
    (if f = 0 then inf64 x.msb
     else s ++ (0x7FF : BitVec 11) ++ (1 : BitVec 1) ++ x.extractLsb' 0 22 ++ (0 : BitVec 29))
  else if e = 0 then
    (if f = 0 then zero64 x.msb
     else
      let k := Nat.log2 f.toNat
      s ++ BitVec.ofNat 11 (k + 874) ++ BitVec.ofNat 52 (f.toNat <<< (52 - k)))
  else s ++ BitVec.ofNat 11 (e + 896) ++ f ++ (0 : BitVec 29)

/-- `narrow(d)`, binary64 to binary32, round to nearest, ties to even (R133). One binary32 unit is `2^925` binary64
units. -/
def narrow (d : Dword) : Word :=
  match val64 d with
  | .nan => canonNaN32
  | .inf a => BitVec.ofBool a ++ BitVec.ofNat 31 0x7F800000
  | .fin a u => BitVec.ofBool a ++ BitVec.ofNat 31 (roundUnits 23 0x7F800000 u (2 ^ 925))

/-- `unit(t)`: the binary64 of `t / 2^32`, exact (R139). -/
def unit (t : Word) : Dword :=
  if t = 0 then 0
  else
    let k := Nat.log2 t.toNat
    (0 : BitVec 1) ++ BitVec.ofNat 11 (k + 991) ++ BitVec.ofNat 52 (t.toNat <<< (52 - k))

/-- The magnitude of `round_away`: the nearest integer to `u` units of `2^-1074`, ties away from zero (R124). -/
def roundAwayMag (u : Nat) : Nat :=
  let f := u / 2 ^ 1074
  if 2 ^ 1074 ≤ 2 * (u % 2 ^ 1074) then f + 1 else f

/-- `round_away(d)` where it is specified; `none` for a NaN, an infinity, and an integer outside `-2^63 .. 2^63 - 1`
(R124, U4). -/
def roundAway (d : Dword) : Option Int :=
  match val64 d with
  | .fin a u =>
    let r := signedUnits a (roundAwayMag u)
    if -(2 ^ 63) ≤ r ∧ r < 2 ^ 63 then some r else none
  | .inf _ => none
  | .nan => none

end Sys2Proof.Machine
end

