-- ==== Sys2Proof/Machine/Half.lean ====
section
/-! DEFINITION. The Half-Precision Codec's two functions (R150, R160) and the composed conversions of the buffer commands
(R134). -/

namespace Sys2Proof.Machine

open Sys2Proof

/-- The magnitude of `encode` for `113 <= e <= 142`: the normal candidate, its carry reaching the infinity (R150). -/
def encodeNormalMag (e f : Nat) : Nat :=
  let mag := (e - 112) * 2 ^ 10 + f / 2 ^ 13
  let rem := f % 2 ^ 13
  if 0x1000 < rem ∨ (rem = 0x1000 ∧ mag % 2 = 1) then mag + 1 else mag

/-- The magnitude of `encode` for `1 <= e <= 112`: the denormal candidate, its carry reaching the smallest normal
(R150). -/
def encodeDenormalMag (e f : Nat) : Nat :=
  let m := 0x800000 + f
  let sh := 126 - e
  if 25 ≤ sh then 0
  else
    let q := m / 2 ^ sh
    let rem := m % 2 ^ sh
    let half := 2 ^ (sh - 1)
    if half < rem ∨ (rem = half ∧ q % 2 = 1) then q + 1 else q

/-- `encode(x)`: a binary32 pattern to a binary16 pattern (R150). -/
def encodeHalf (x : Word) : Half :=
  let s : Half := BitVec.ofBool x.msb ++ (0 : BitVec 15)
  let e := (x.extractLsb' 23 8).toNat
  let f := (x.extractLsb' 0 23).toNat
  if e = 255 ∧ f ≠ 0 then s ||| 0x7C00 ||| 0x0200 ||| (x.extractLsb' 13 10).setWidth 16
  else if e = 255 then s ||| 0x7C00
  else if 143 ≤ e then s ||| 0x7C00
  else if 113 ≤ e then s ||| BitVec.ofNat 16 (encodeNormalMag e f)
  else if e = 0 then s
  else s ||| BitVec.ofNat 16 (encodeDenormalMag e f)

/-- `decode(h)`: a binary16 pattern to a binary32 pattern, exact (R160). -/
def decodeHalf (h : Half) : Word :=
  let s : Word := BitVec.ofBool h.msb ++ (0 : BitVec 31)
  let e := (h.extractLsb' 10 5).toNat
  let m := (h.extractLsb' 0 10).toNat
  if e = 31 ∧ m ≠ 0 then s ||| 0x7F800000 ||| 0x00400000 ||| BitVec.ofNat 32 (m * 2 ^ 13)
  else if e = 31 then s ||| 0x7F800000
  else if e = 0 ∧ m = 0 then s
  else if e = 0 then
    let k := Nat.log2 m
    s ||| BitVec.ofNat 32 ((k + 103) * 2 ^ 23) ||| (BitVec.ofNat 32 (m * 2 ^ (23 - k)) &&& 0x7FFFFF)
  else s ||| BitVec.ofNat 32 ((e + 112) * 2 ^ 23) ||| BitVec.ofNat 32 (m * 2 ^ 13)

/-- `h2d(h) = widen(decode(h))`, exact (R134). -/
def h2d (h : Half) : Dword := widen (decodeHalf h)

/-- `d2h(d) = encode(narrow(d))`, two roundings in sequence (R134). -/
def d2h (d : Dword) : Half := encodeHalf (narrow d)

end Sys2Proof.Machine
end

