-- ==== Sys2Proof/Syntax.lean ====
section
/-! DEFINITION. The 17 commands (R2, R96), one constructor each; their assembler text (R106) and the
pseudo-instructions (R107). -/

namespace Sys2Proof

/-- The commands of R96. The operand of `ENC` and `DEC` is the dtype tag `dt`, that of `SIGMA`, `DELTA` and `TSTEP` the
unsigned schedule index `imm16` (R94); all other operands are implicit. -/
inductive Instr where
  /-- R250 -/
  | nop
  /-- R251 -/
  | abort
  /-- R252 -/
  | clrf
  /-- R151 -/
  | enc (dt : Tag)
  /-- R161 -/
  | dec (dt : Tag)
  /-- R171 -/
  | seed
  /-- R173 -/
  | next
  /-- R185 -/
  | filln
  /-- R217 -/
  | dup
  /-- R218 -/
  | presc
  /-- R219 -/
  | sview
  /-- R222 -/
  | stepc
  /-- R223 -/
  | steps
  /-- R229 -/
  | vscale
  /-- R204 -/
  | sigma (i : Nat)
  /-- R205 -/
  | delta (i : Nat)
  /-- R206 -/
  | tstep (i : Nat)
deriving DecidableEq, Repr

/-- The dtype tag `F16` (R99). -/
def tagF16 : Tag := 0x1

/-- The three formats of R95: nothing live but the opcode; a dtype tag; an index. -/
inductive Format where
  | Z | T | I
deriving DecidableEq, Repr

/-- The pseudo-instructions of R107. -/
inductive Pseudo where
  | linit | enc | dec
deriving DecidableEq, Repr

/-- The commands a pseudo-instruction stands for (R107). -/
def Pseudo.expand : Pseudo → List Instr
  | .linit => [.filln, .dup, .presc]
  | .enc => [.enc tagF16]
  | .dec => [.dec tagF16]

/-- A dtype tag in assembler text (R106). -/
def asmTag (t : Tag) : String := if t = tagF16 then "F16" else "#" ++ toString t.toNat

/-- A command in assembler text, indices in decimal (R106). -/
def Instr.asm : Instr → String
  | .nop => "NOP"
  | .abort => "ABORT"
  | .clrf => "CLRF"
  | .enc dt => "ENC " ++ asmTag dt
  | .dec dt => "DEC " ++ asmTag dt
  | .seed => "SEED"
  | .next => "NEXT"
  | .filln => "FILLN"
  | .dup => "DUP"
  | .presc => "PRESC"
  | .sview => "SVIEW"
  | .stepc => "STEPC"
  | .steps => "STEPS"
  | .vscale => "VSCALE"
  | .sigma i => "SIGMA " ++ toString i
  | .delta i => "DELTA " ++ toString i
  | .tstep i => "TSTEP " ++ toString i

end Sys2Proof
end

