-- ==== Sys2Proof/WellFormed.lean ====
section
/-! DEFINITION. Which terms of `Instr` are commands: the index of a format-I command is 0 to 65535 (R94). A dtype tag
cannot be ill-formed: every 4-bit tag decodes (R98). -/

namespace Sys2Proof

/-- The index fits `imm16` (R90, R94). -/
def indexFits (i : Nat) : Bool := decide (i < 65536)

/-- The command has a word (R90, R94, R96). -/
def Instr.wellFormed : Instr → Bool
  | .nop | .abort | .clrf | .seed | .next | .filln | .dup | .presc | .sview | .stepc | .steps | .vscale => true
  | .enc _ | .dec _ => true
  | .sigma i | .delta i | .tstep i => indexFits i

end Sys2Proof
end

