-- ==== Sys2Proof/Decode.lean ====
section
/-! DEFINITION. The command word (R90 to R98, R104): decoding a 32-bit word, total, rejecting by name; and the encoder,
from the same table (R96). -/

namespace Sys2Proof

/-- Why a word is no command (R97, R98). -/
inductive DecodeError where
  /-- `op` is none of the 17 opcodes (R97). -/
  | undefinedOpcode
  /-- nonzero `zero` field (R98) -/
  | nonzeroZero
  /-- nonzero `dt` in a format-Z or format-I command (R98) -/
  | nonzeroTag
  /-- nonzero `imm16` in a format-Z or format-T command (R98) -/
  | nonzeroImm
deriving DecidableEq, Repr

/-- Bits 7:0, the opcode (R90). -/
def opField (w : Word) : BitVec 8 := w.extractLsb' 0 8

/-- Bits 11:8, the dtype tag (R90). -/
def tagField (w : Word) : Tag := w.extractLsb' 8 4

/-- Bits 15:12, which must be zero (R90). -/
def zeroField (w : Word) : BitVec 4 := w.extractLsb' 12 4

/-- Bits 31:16, the index (R90, R94). -/
def immField (w : Word) : BitVec 16 := w.extractLsb' 16 16

/-- A format-Z word: only `op` is live (R95). -/
def decodeZ (i : Instr) (w : Word) : Except DecodeError Instr :=
  if zeroField w ≠ 0 then .error .nonzeroZero
  else if tagField w ≠ 0 then .error .nonzeroTag
  else if immField w ≠ 0 then .error .nonzeroImm
  else .ok i

/-- A format-T word: `op` and `dt` are live, and every `dt` decodes (R95, R98). -/
def decodeT (i : Tag → Instr) (w : Word) : Except DecodeError Instr :=
  if zeroField w ≠ 0 then .error .nonzeroZero
  else if immField w ≠ 0 then .error .nonzeroImm
  else .ok (i (tagField w))

/-- A format-I word: `op` and `imm16` are live, the index taken as it stands (R94, R95). -/
def decodeI (i : Nat → Instr) (w : Word) : Except DecodeError Instr :=
  if zeroField w ≠ 0 then .error .nonzeroZero
  else if tagField w ≠ 0 then .error .nonzeroTag
  else .ok (i (immField w).toNat)

/-- The decoder: the opcode map of R96, with the illegal words of R97 and R98 rejected. -/
def decode (w : Word) : Except DecodeError Instr :=
  match (opField w).toNat with
  | 0x00 => decodeZ .nop w
  | 0x01 => decodeZ .abort w
  | 0x02 => decodeZ .clrf w
  | 0x10 => decodeT .enc w
  | 0x11 => decodeT .dec w
  | 0x20 => decodeZ .seed w
  | 0x21 => decodeZ .next w
  | 0x30 => decodeZ .filln w
  | 0x31 => decodeZ .dup w
  | 0x32 => decodeZ .presc w
  | 0x33 => decodeZ .sview w
  | 0x34 => decodeZ .stepc w
  | 0x35 => decodeZ .steps w
  | 0x36 => decodeZ .vscale w
  | 0x40 => decodeI .sigma w
  | 0x41 => decodeI .delta w
  | 0x42 => decodeI .tstep w
  | _ => .error .undefinedOpcode

/-- The opcode of a command (R96). -/
def Instr.opcode : Instr → BitVec 8
  | .nop => 0x00
  | .abort => 0x01
  | .clrf => 0x02
  | .enc _ => 0x10
  | .dec _ => 0x11
  | .seed => 0x20
  | .next => 0x21
  | .filln => 0x30
  | .dup => 0x31
  | .presc => 0x32
  | .sview => 0x33
  | .stepc => 0x34
  | .steps => 0x35
  | .vscale => 0x36
  | .sigma _ => 0x40
  | .delta _ => 0x41
  | .tstep _ => 0x42

/-- The format of a command (R95). -/
def Instr.format : Instr → Format
  | .enc _ | .dec _ => .T
  | .sigma _ | .delta _ | .tstep _ => .I
  | .nop | .abort | .clrf | .seed | .next | .filln | .dup | .presc | .sview | .stepc | .steps | .vscale => .Z

/-- The `dt` field of a command: its tag in format T, zero otherwise (R95). -/
def Instr.tagBits : Instr → Tag
  | .enc dt | .dec dt => dt
  | .nop | .abort | .clrf | .seed | .next | .filln | .dup | .presc | .sview | .stepc | .steps | .vscale => 0
  | .sigma _ | .delta _ | .tstep _ => 0

/-- The `imm16` field of a command: its index in format I, zero otherwise (R95). -/
def Instr.immBits : Instr → BitVec 16
  | .sigma i | .delta i | .tstep i => BitVec.ofNat 16 i
  | .nop | .abort | .clrf | .seed | .next | .filln | .dup | .presc | .sview | .stepc | .steps | .vscale => 0
  | .enc _ | .dec _ => 0

/-- The fields of R90 put together: `imm16` in bits 31:16, zero in 15:12, `dt` in 11:8, `op` in 7:0. -/
def packWord (op : BitVec 8) (dt : Tag) (imm : BitVec 16) : Word := imm ++ (0 : BitVec 4) ++ dt ++ op

/-- The word of a command (R90, R96). -/
def encode (i : Instr) : Word := packWord i.opcode i.tagBits i.immBits

/-- The mask of R96's last paragraph: the bits that the opcode and the must-be-zero fields fix. -/
def Format.mask : Format → Word
  | .Z => 0xFFFFFFFF
  | .T => 0xFFFFF0FF
  | .I => 0x0000FFFF

/-- The command the decoder reads from a table row's bits; a command is one 32-bit word (R104). -/
def decodeTableWord (nbits w : Nat) : Option Instr :=
  if nbits ≤ 32 then (decode (BitVec.ofNat 32 (w % 2 ^ nbits))).toOption else none

end Sys2Proof
end

