-- ==== Sys2Proof/Machine/PrngStep.lean ====
section
/-! DEFINITION. The 32-bit operations of R120, one application of an instance of `PRNG_STEP` (R174), and the default
instance (R175). -/

namespace Sys2Proof.Machine

open Sys2Proof

/-- `x +32 y` (R120): the carry out is dropped. -/
def add32 (x y : Word) : Word := x + y

/-- `x <<32 n` (R120). -/
def shl32 (x : Word) (n : Nat) : Word := x <<< n

/-- `x >>32 n`, logical (R120). -/
def shr32 (x : Word) (n : Nat) : Word := x >>> n

/-- `rotl32(x, n)` (R120). -/
def rotl32 (x : Word) (n : Nat) : Word := if n = 0 then x else shl32 x n ||| shr32 x (32 - n)

/-- The four words of `PRNGState`, `P[0]` to `P[3]` (R25, R170). -/
structure PrngWords where
  a : Word
  b : Word
  c : Word
  d : Word
deriving DecidableEq, Repr

/-- The value of a term on the old state words (R120, R175: every right-hand side uses the old words). -/
def evalPrng : PrngExpr → PrngWords → Word
  | .a, p => p.a
  | .b, p => p.b
  | .c, p => p.c
  | .d, p => p.d
  | .lit w, _ => w
  | .add x y, p => add32 (evalPrng x p) (evalPrng y p)
  | .xor x y, p => evalPrng x p ^^^ evalPrng y p
  | .or x y, p => evalPrng x p ||| evalPrng y p
  | .shl x n, p => shl32 (evalPrng x p) n.val
  | .shr x n, p => shr32 (evalPrng x p) n.val
  | .rotl x n, p => rotl32 (evalPrng x p) n.val

/-- The new state words of one draw (R174). -/
def prngNext (f : PrngProgram) (p : PrngWords) : PrngWords :=
  { a := evalPrng f.a p, b := evalPrng f.b p, c := evalPrng f.c p, d := evalPrng f.d p }

/-- The output word `t` of one draw (R174). -/
def prngOut (f : PrngProgram) (p : PrngWords) : Word := evalPrng f.t p

/-- `d'` of R175: the counter, incremented once per draw. -/
def standardD : PrngExpr := .add .d (.lit 1)

/-- The output `t` of R175: `(a +32 b) +32 d'`, the incremented counter entering it. -/
def standardT : PrngExpr := .add (.add .a .b) standardD

/-- The default `PRNG_STEP` (R175). -/
def standardPrng : PrngProgram where
  a := .xor .b (.shr .b 9)
  b := .add .c (.shl .c 3)
  c := .add (.rotl .c 21) standardT
  d := standardD
  t := standardT

end Sys2Proof.Machine
end

