-- ==== Sys2Proof/Machine/State.lean ====
section
/-! DEFINITION. The state of the block (R20, R34, R62, R64) as plain data, the ways a step can stop, and the machine right
after reset (R39, R290). -/

namespace Sys2Proof.Machine

open Sys2Proof

/-- The six halfword buffer memories (R62). -/
inductive Buf where
  | lat | scr | pred | predp | predn | out
deriving DecidableEq, Repr

/-- The two schedule memories (R64): `SIGMA` and `TS`. -/
inductive Sched where
  | sigma | ts
deriving DecidableEq, Repr

/-- A memory by name (R61). -/
inductive MemName where
  | buf (b : Buf)
  | sched (t : Sched)
deriving DecidableEq, Repr

/-- The values of `STATUS.FAULT` (R22, R260); codes 5 to 15 are never produced (F4 of 93_implementation_defined.md). -/
inductive FaultCode where
  | noFault
  | shapeMismatch
  | unsupportedDType
  | scheduleExhausted
  | illegalCommand
deriving DecidableEq, Repr

/-- A tensor descriptor: a dtype tag and four extents `[batch, channels, height, width]` (R30, R31, R32). -/
structure TensorDesc where
  dt : Tag
  dim0 : Word
  dim1 : Word
  dim2 : Word
  dim3 : Word
deriving DecidableEq, Repr

/-- What reaches the block from outside: the host's primitives (R60; `HostCommand(w)` is `writeReg 0 w`) and the reset
event (R290). A value carried to a register or element is given in 64 bits. -/
inductive Input where
  | writeReg (no : Nat) (v : Dword)
  | readReg (no : Nat)
  | writeBuf (m : MemName) (i : Nat) (v : Dword)
  | readBuf (m : MemName) (i : Nat)
  | reset
deriving DecidableEq, Repr

/-- Why the machine stops inside a command. Safe: R282 says that no command makes such an access. -/
inductive Fault where
  /-- Raised by `State.read16`, `State.write16`, `State.read64` when an element index is at or beyond the memory's size
  (R62, R64). Safe: the machine stops rather than wrap or alias. -/
  | memoryRange
deriving DecidableEq, Repr

/-- Why an input has no step. -/
inductive Refusal where
  /-- Raised by `exec` for a command without a meaning. Safe. (No arm of this model raises it.) -/
  | notModelled (mnemonic : String)
  /-- Raised by a host access to a register number that is not in R34's map (R77, X1). Safe. -/
  | undefinedRegister (no : Nat)
  /-- Raised by a host write to a register marked R (R77, X1). Safe. -/
  | readOnlyRegister (no : Nat)
  /-- Raised by a host read of a register marked W, `CMD` (R21, R77, X1). Safe. -/
  | writeOnlyRegister (no : Nat)
  /-- Raised by a host write to `SCR` or `OUT` (R62, R77, X2). Safe. -/
  | readOnlyMemory (m : MemName)
  /-- Raised by a host access to a memory at or beyond its size (R77, X2). Safe. -/
  | indexOutOfRange (m : MemName) (i : Nat)
  /-- Raised by a host write of a value wider than the register or element: R60 writes "of the register's width" only
  (log entry 9). Safe. -/
  | valueTooWide
deriving DecidableEq, Repr

/-- A memory as the bytes a platform would show (R65): address and byte, in one canonical form (`Memory.wf`). -/
abbrev Memory := List Host.Cell

/-- What a byte that nothing has written reads as. R39 leaves it unspecified. DESIGN CHOICE, unsafe (log entry 2). -/
def unlistedByte : Byte := 0

/-- The canonical form: addresses strictly rising, and no entry equal to what an unlisted address reads as. -/
abbrev Memory.wf (m : Memory) : Prop :=
  List.Pairwise (fun c c' => c.1 < c'.1) m ∧ ∀ c ∈ m, c.2 ≠ unlistedByte

/-- The whole state (R20). The last four fields are the model's own (INVENTORY.md, log entries 3, 6, 7). -/
structure State where
  /-- `STATUS.FAULT` (R22, R35). -/
  fault : FaultCode
  /-- `STATUS.IVALID` (R36). -/
  ivalid : Bool
  /-- `STATUS.ITER` (R36). -/
  iter : BitVec 16
  /-- `FCMD` (R33). -/
  fcmd : Word
  /-- `OPA` (R23). -/
  opa : Word
  /-- `RES` (R23). -/
  res : Dword
  /-- `SEED0`, seed bits 31:0 (R24, R103). -/
  seed0 : Word
  /-- `SEED1`, seed bits 63:32. -/
  seed1 : Word
  /-- `SEED2`, seed bits 95:64. -/
  seed2 : Word
  /-- `SEED3`, seed bits 127:96. -/
  seed3 : Word
  /-- `PRNG_A` to `PRNG_D` (R25). -/
  prng : PrngWords
  /-- `NITER` (R26). -/
  niter : BitVec 16
  /-- `GSCALE` (R27). -/
  gscale : Dword
  /-- `VAESCALE` (R28). -/
  vaescale : Dword
  /-- `LAT_C` (R29). -/
  latC : Word
  /-- `LAT_H` (R29). -/
  latH : Word
  /-- `LAT_W` (R29). -/
  latW : Word
  /-- `PRED_DT`, `PRED_DIM0` to `PRED_DIM3` (R30). -/
  predDesc : TensorDesc
  /-- `PREDP_DT`, `PREDP_DIM0` to `PREDP_DIM3` (R31). -/
  predpDesc : TensorDesc
  /-- `PREDN_DT`, `PREDN_DIM0` to `PREDN_DIM3` (R32). -/
  prednDesc : TensorDesc
  /-- memory `LAT` (R62) -/
  lat : Memory
  /-- memory `SCR` (R62) -/
  scr : Memory
  /-- memory `PRED` (R62) -/
  pred : Memory
  /-- memory `PREDP` (R62) -/
  predp : Memory
  /-- memory `PREDN` (R62) -/
  predn : Memory
  /-- memory `OUT` (R62) -/
  out : Memory
  /-- memory `SIGMA` (R64) -/
  sigma : Memory
  /-- memory `TS` (R64) -/
  ts : Memory
  /-- The parameters of R7: no step changes them (R40). -/
  hw : Hardware
  /-- The inputs still to come, oldest first. -/
  inputs : List Input
  /-- What the latest input returned to the host, if it was a read (R60). -/
  reply : Option Dword
  /-- How many free values `TSTEP` has taken (U4). -/
  freeCount : Nat
deriving DecidableEq, Repr

/-- The reset value of a descriptor (R30, R31, R32, R39). -/
def TensorDesc.zero : TensorDesc := { dt := 0, dim0 := 0, dim1 := 0, dim2 := 0, dim3 := 0 }

/-- The machine right after reset: R39's table. What R39 leaves unspecified is zero here (log entries 1 and 2); the
parameters are R7's, the capacities opaque and the functions the defaults (log entries 3, 4, 5). -/
def State.reset : State where
  fault := .noFault
  ivalid := false
  iter := 0
  fcmd := 0
  opa := 0
  res := 0
  seed0 := 0
  seed1 := 0
  seed2 := 0
  seed3 := 0
  prng := { a := 0, b := 0, c := 0, d := 0 }
  niter := 25
  gscale := 0x401E000000000000
  vaescale := 0x3FC750B0F27BB2FF
  latC := 0
  latH := 0
  latW := 0
  predDesc := TensorDesc.zero
  predpDesc := TensorDesc.zero
  prednDesc := TensorDesc.zero
  lat := []
  scr := []
  pred := []
  predp := []
  predn := []
  out := []
  sigma := []
  ts := []
  hw := { eMax := Config.eMax, nMax := Config.nMax, prngStep := standardPrng, reals := .correctlyRounded }
  inputs := []
  reply := none
  freeCount := 0

end Sys2Proof.Machine
end

