-- ==== Sys2Proof/Machine/Ops.lean ====
section
/-! DEFINITION. The named operations over memories, registers and the PRNG file; TAKING A FAULT (R266) and the return
from one (R252, R270); the reset event (R290). -/

namespace Sys2Proof.Machine

open Sys2Proof

/-! Memories: bytes, then whole elements (R65, R68, R83). -/

/-- One byte of a memory. -/
def Memory.byte : Memory → Nat → Byte
  | [], _ => unlistedByte
  | c :: m, a => if c.1 = a then c.2 else Memory.byte m a

/-- One byte written, the canonical form kept. -/
def Memory.put : Memory → Nat → Byte → Memory
  | [], a, v => if v = unlistedByte then [] else [(a, v)]
  | c :: m, a, v =>
    if a < c.1 then (if v = unlistedByte then c :: m else (a, v) :: c :: m)
    else if a = c.1 then (if v = unlistedByte then m else (a, v) :: m)
    else c :: Memory.put m a v

/-- `n` bytes from address `a`, bits 7:0 first (R65). -/
def Memory.readLE (m : Memory) (a : Nat) : Nat → Nat
  | 0 => 0
  | n + 1 => (m.byte a).toNat + 256 * Memory.readLE m (a + 1) n

/-- The `n` low bytes of `v` written from address `a`, bits 7:0 first (R65). -/
def Memory.writeLE (m : Memory) (a : Nat) : Nat → Nat → Memory
  | 0, _ => m
  | n + 1, v => Memory.writeLE (m.put a (BitVec.ofNat 8 v)) (a + 1) n (v / 256)

/-- The address of the first byte of element `i` of a memory whose elements have `w` bytes (R65). -/
def elemAddr (w i : Nat) : Nat := w * i

/-- A halfword memory by name. -/
def State.buf (b : Buf) (s : State) : Memory :=
  match b with
  | .lat => s.lat
  | .scr => s.scr
  | .pred => s.pred
  | .predp => s.predp
  | .predn => s.predn
  | .out => s.out

/-- A halfword memory replaced. -/
def State.setBuf (b : Buf) (m : Memory) (s : State) : State :=
  match b with
  | .lat => { s with lat := m }
  | .scr => { s with scr := m }
  | .pred => { s with pred := m }
  | .predp => { s with predp := m }
  | .predn => { s with predn := m }
  | .out => { s with out := m }

/-- A schedule memory by name. -/
def State.sched (t : Sched) (s : State) : Memory :=
  match t with
  | .sigma => s.sigma
  | .ts => s.ts

/-- A schedule memory replaced. -/
def State.setSched (t : Sched) (m : Memory) (s : State) : State :=
  match t with
  | .sigma => { s with sigma := m }
  | .ts => { s with ts := m }

/-- The number of elements of a halfword memory (R62). -/
def bufSize (h : Hardware) : Buf → Nat
  | .lat | .scr | .pred => 2 * h.eMax
  | .predp | .predn | .out => h.eMax

/-- The number of elements of a schedule memory (R64). -/
def schedSize (h : Hardware) : Sched → Nat
  | .sigma => h.nMax + 1
  | .ts => h.nMax

/-- Element `i` of a halfword memory. -/
def State.half (b : Buf) (i : Nat) (s : State) : Half :=
  BitVec.ofNat 16 ((s.buf b).readLE (elemAddr 2 i) 2)

/-- Element `i` of a schedule memory. -/
def State.dword (t : Sched) (i : Nat) (s : State) : Dword :=
  BitVec.ofNat 64 ((s.sched t).readLE (elemAddr 8 i) 8)

/-- A halfword memory after element `i` is written. -/
def Memory.putHalf (m : Memory) (i : Nat) (v : Half) : Memory := m.writeLE (elemAddr 2 i) 2 v.toNat

/-- A schedule memory after element `i` is written. -/
def Memory.putDword (m : Memory) (i : Nat) (v : Dword) : Memory := m.writeLE (elemAddr 8 i) 8 v.toNat

/-- `MemRead(B[i], 16)` (R11); `none` outside the memory. -/
def State.read16 (b : Buf) (i : Nat) (s : State) : Option Half :=
  if i < bufSize s.hw b then some (s.half b i) else none

/-- `MemWrite(B[i], 16, v)` (R11); `none` outside the memory. -/
def State.write16 (b : Buf) (i : Nat) (v : Half) (s : State) : Option State :=
  if i < bufSize s.hw b then some (s.setBuf b ((s.buf b).putHalf i v)) else none

/-- `MemRead(T[i], 64)` (R11); `none` outside the memory. -/
def State.read64 (t : Sched) (i : Nat) (s : State) : Option Dword :=
  if i < schedSize s.hw t then some (s.dword t i) else none

/-- `for k in k0 .. k0 + n - 1:` in increasing order (R11, R141); `none` as soon as an access is outside a memory. -/
def forElems (body : Nat → State → Option State) : (n k : Nat) → State → Option State
  | 0, _, s => some s
  | n + 1, k, s =>
    match body k s with
    | some s' => forElems body n (k + 1) s'
    | none => none

/-! Registers. -/

/-- `RES <- v` (R23). -/
def State.setRes (v : Dword) (s : State) : State := { s with res := v }

/-- `IVALID <- v ; ITER <- i` (R36). -/
def State.setRun (v : Bool) (i : BitVec 16) (s : State) : State := { s with ivalid := v, iter := i }

/-- The PRNG file written (R25). -/
def State.setPrng (p : PrngWords) (s : State) : State := { s with prng := p }

/-- The four seed words paired in order with the four state words (R172). -/
def State.seedWords (s : State) : PrngWords := { a := s.seed0, b := s.seed1, c := s.seed2, d := s.seed3 }

/-- `P[0] <- SEED0 ; .. ; P[3] <- SEED3` (R171). -/
def State.seedPrng (s : State) : State := s.setPrng s.seedWords

/-- The output word of the next draw (R174). -/
def State.drawWord (s : State) : Word := prngOut s.hw.prngStep s.prng

/-- The state after one draw (R174). -/
def State.afterDraw (s : State) : State := s.setPrng (prngNext s.hw.prngStep s.prng)

/-- The free value a `TSTEP` takes (U4; log entry 6). -/
def State.freeValue (s : State) : Dword := Config.freeTimestep s.freeCount

/-- The count of free values advanced, so that the next one may differ. -/
def State.countFree (s : State) : State := { s with freeCount := s.freeCount + 1 }

/-! Faults. -/

/-- FAULT ENTRY: `raise F(cmd)` as one action (R266). -/
def State.raise (f : FaultCode) (cmd : Word) (s : State) : State :=
  { s with fault := f, fcmd := cmd, ivalid := false, iter := 0 }

/-- The return from the faulted state: `FAULT <- 0 ; FCMD <- 0` (R252, R270). -/
def State.clearFault (s : State) : State := { s with fault := .noFault, fcmd := 0 }

/-- The first failing check of a list (R269: the lists are in priority order). -/
def firstFault : List (Option FaultCode) → Option FaultCode
  | [] => none
  | some f :: _ => some f
  | none :: l => firstFault l

/-- A loop's or an access's outcome as a step's. -/
def finish : Option State → Host.Outcome State Fault Refusal
  | some s => .next s
  | none => .fault .memoryRange

/-- A command: all checks first, the first failing one raising its fault with the command word; then the body (R266,
R267, R269). -/
def guarded (i : Instr) (checks : List (Option FaultCode)) (body : State → Option State) (s : State) :
    Host.Outcome State Fault Refusal :=
  match firstFault checks with
  | some f => .next (s.raise f (encode i))
  | none => finish (body s)

/-! Reset. -/

/-- The reset event (R290): every register and memory as R39 says; the parameters (R40) and the inputs still to come are
not the block's state and stay (log entry 8). -/
def State.doReset (s : State) : State := { State.reset with hw := s.hw, inputs := s.inputs, freeCount := s.freeCount }

end Sys2Proof.Machine
end

