-- ==== Sys2Proof/Machine/RealFns.lean ====
section
/-! DEFINITION. The parameters `LN64` and `COS64` (R135, R136). The default instance is correctly rounded: the function is
enclosed between two fixed-point bounds, and where both bounds round to one pattern, that pattern is the correctly rounded
result. Where they do not, and in every other instance, the result is a free value within what R135 and R136 demand (log
entry 5). -/

namespace Sys2Proof.Machine

open Sys2Proof

/-- The sum of `pw * z^(2i) / (j + 2i)` over `n` terms, in units of `2^-p`; `z2` is `z^2`. -/
def artanhSum : Nat → Nat → Nat → Nat → Nat → Nat → Nat
  | 0, _, _, _, _, acc => acc
  | n + 1, p, z2, pw, j, acc => artanhSum n p z2 (pw * z2 / 2 ^ p) (j + 2) (acc + pw / j)

/-- `artanh(num / den)` in units of `2^-p`, for `0 <= num / den <= 1/3`; below `p = 256` the 90 terms leave an error under
`2^8` units. -/
def artanhFix (p num den : Nat) : Nat :=
  let z := num * 2 ^ p / den
  artanhSum 90 p (z * z / 2 ^ p) z 1 0

/-- `arctan(1 / k)` in units of `2^-p`, two terms of its series for each count of `n`; `k2` is `k^2`. -/
def arctanInv : Nat → Nat → Nat → Nat → Nat → Nat
  | 0, _, _, _, acc => acc
  | n + 1, k2, pw, j, acc => arctanInv n k2 (pw / k2 / k2) (j + 4) (acc + (pw / j - pw / k2 / (j + 2)))

/-- pi in units of `2^-p`: Machin's `16 arctan(1/5) - 4 arctan(1/239)`. -/
def piFix (p : Nat) : Nat :=
  16 * arctanInv (p / 8) 25 (2 ^ p / 5) 1 0 - 4 * arctanInv (p / 8) 57121 (2 ^ p / 239) 1 0

/-- The terms of the cosine series, the positive ones summed in `pos` and the negative ones in `neg`; `t` is the next
term, of degree `j`, and `r2` the square of the argument, all in units of `2^-p`. -/
def cosSum : Nat → Nat → Nat → Nat → Nat → Nat → Nat → Nat
  | 0, _, _, _, _, pos, neg => pos - neg
  | n + 1, p, r2, t, j, pos, neg =>
    let t1 := t * r2 / 2 ^ p / ((j + 1) * (j + 2))
    let t2 := t1 * r2 / 2 ^ p / ((j + 3) * (j + 4))
    cosSum n p r2 t2 (j + 4) (pos + t) (neg + t1)

/-- The pattern that both ends of `(x ± margin) * 2^-p` round to, if they agree and the interval lies above zero. -/
def roundEnclosed (neg : Bool) (p x margin : Nat) : Option Dword :=
  if x ≤ margin then none
  else
    let lo := roundUnits 52 infMag64 ((x - margin) * 2 ^ 1074) (2 ^ p)
    let hi := roundUnits 52 infMag64 ((x + margin) * 2 ^ 1074) (2 ^ p)
    if lo = hi then some (pack64 neg lo) else none

/-- The correctly rounded logarithm of `u` units of `2^-1074`, `u > 0`, where 256 bits decide it. With `u = 2^l * m`,
`1 <= m < 2`: `ln = (l - 1074) * ln 2 + 2 artanh((m - 1) / (m + 1))`. -/
def lnRounded (u : Nat) : Option Dword :=
  let l := Nat.log2 u
  let ln2 := 2 * artanhFix 256 1 3
  let lnM := 2 * artanhFix 256 (u - 2 ^ l) (u + 2 ^ l)
  let x : Int := ((l : Int) - 1074) * (ln2 : Int) + (lnM : Int)
  roundEnclosed (decide (x < 0)) 256 x.natAbs (2 ^ 24)

/-- The correctly rounded cosine of `u` units of `2^-1074`, where the working precision decides it: the argument is
reduced to `[0, 2 pi)`, then by symmetry to `[0, pi/2]`. The precision and the margin grow with the argument. -/
def cosRounded (u : Nat) : Option Dword :=
  let big := Nat.log2 u - 1074
  let p := 256 + big
  let pi := piFix p
  let r := (u * 2 ^ p / 2 ^ 1074) % (2 * pi)
  let r := if pi < r then 2 * pi - r else r
  let neg := decide (pi < 2 * r)
  let r := if pi < 2 * r then pi - r else r
  roundEnclosed neg p (cosSum (p / 8) p (r * r / 2 ^ p) (2 ^ p) 0 0 0) (2 ^ (24 + big))

/-- A NaN replaced by the canonical one (R130). -/
def canonNaN (d : Dword) : Dword := if val64 d = .nan then canonNaN64 else d

/-- Another instance's logarithm of a finite positive operand other than 1: finite and negative below 1 (R135). -/
def lnFree (d : Dword) : Dword :=
  if d.toNat < ONE64.toNat then pack64 true ((Config.lnBelowOne d).val + 1) else canonNaN (Config.lnAboveOne d)

/-- Another instance's cosine of a finite nonzero operand: in `[-1, 1]` (R136). -/
def cosFree (d : Dword) : Dword := pack64 (Config.cosNegative d) (Config.cosMagnitude d).val

/-- `LN64` (R135). -/
def ln64 (f : RealFns) (d : Dword) : Dword :=
  match val64 d with
  | .nan => canonNaN64
  | .inf a => if a then canonNaN64 else inf64 false
  | .fin a u =>
    if u = 0 then inf64 true
    else if a then canonNaN64
    else if d = ONE64 then zero64 false
    else
      match f with
      | .correctlyRounded => (lnRounded u).getD (lnFree d)
      | .other => lnFree d

/-- `COS64` (R136). -/
def cos64 (f : RealFns) (d : Dword) : Dword :=
  match val64 d with
  | .nan => canonNaN64
  | .inf _ => canonNaN64
  | .fin _ u =>
    if u = 0 then ONE64
    else
      match f with
      | .correctlyRounded => (cosRounded u).getD (cosFree d)
      | .other => cosFree d

end Sys2Proof.Machine
end

