-- ==== Sys2Proof/Machine/Operands.lean ====
section
/-! DEFINITION. The operand forms: the element count and the schedule index with their checks (R200 to R208, R231), the
dtype tags and descriptors (R99, R231), and the element functions of the buffer commands (R186, R219 to R221). -/

namespace Sys2Proof.Machine

open Sys2Proof

/-! Counts. -/

/-- `E = LAT_C * LAT_H * LAT_W`, a natural: nothing wraps (R29, R121). -/
def State.elems (s : State) : Nat := s.latC.toNat * s.latH.toNat * s.latW.toNat

/-- The flat index of the logical position `[b, c, h, w]` of a dual-batch buffer (R63). No command depends on it: every
command walks the flat index. -/
def State.flatIndex (b c h w : Nat) (s : State) : Nat :=
  b * s.elems + (c * s.latH.toNat + h) * s.latW.toNat + w

/-- `N = min(NITER, N_MAX)` (R200). -/
def State.iterCount (s : State) : Nat := min s.niter.toNat s.hw.nMax

/-- `i < N`: `i` is below both `NITER` and `N_MAX` (R200). -/
abbrev State.belowN (i : Nat) (s : State) : Prop := i < s.niter.toNat ∧ i < s.hw.nMax

/-! Checks: `none` when the check passes (R231, R269). -/

/-- The tag of `ENC` and `DEC` must be `F16` (R262). -/
def checkTag (dt : Tag) : Option FaultCode := if dt = tagF16 then none else some .unsupportedDType

/-- `check_pred_dtype_c` (R231). -/
def checkPredDtypeC (s : State) : Option FaultCode := checkTag s.predDesc.dt

/-- `check_pred_dtype_s` (R231). -/
def checkPredDtypeS (s : State) : Option FaultCode :=
  if s.predpDesc.dt = tagF16 ∧ s.prednDesc.dt = tagF16 then none else some .unsupportedDType

/-- The extents of a descriptor are `(batch, LAT_C, LAT_H, LAT_W)`, extent by extent (R231). -/
abbrev State.dimsMatch (batch : Word) (t : TensorDesc) (s : State) : Prop :=
  t.dim0 = batch ∧ t.dim1 = s.latC ∧ t.dim2 = s.latH ∧ t.dim3 = s.latW

/-- `check_pred_shape_c` (R231). -/
def checkPredShapeC (s : State) : Option FaultCode :=
  if s.dimsMatch 2 s.predDesc then none else some .shapeMismatch

/-- `check_pred_shape_s` (R231). -/
def checkPredShapeS (s : State) : Option FaultCode :=
  if s.dimsMatch 1 s.predpDesc ∧ s.dimsMatch 1 s.prednDesc then none else some .shapeMismatch

/-- The check of `lat_E`: `E > E_MAX` faults (R231). -/
def checkElems (s : State) : Option FaultCode := if s.hw.eMax < s.elems then some .shapeMismatch else none

/-- `iter_defined` (R231). -/
def checkIterDefined (s : State) : Option FaultCode := if s.ivalid then none else some .scheduleExhausted

/-- The check of `sched_sigma(i)`: `i > N` faults (R202). -/
def checkSigma (i : Nat) (s : State) : Option FaultCode :=
  if s.iterCount < i then some .scheduleExhausted else none

/-- The check of `sched_delta(i)`: `i >= N` faults (R203). -/
def checkDelta (i : Nat) (s : State) : Option FaultCode :=
  if s.belowN i then none else some .scheduleExhausted

/-- The check of `sched_timestep(i)`: `i >= N` faults (R207). -/
def checkTimestep (i : Nat) (s : State) : Option FaultCode :=
  if s.belowN i then none else some .scheduleExhausted

/-! Schedule values, after their checks. -/

/-- `sched_sigma(i)`: the stored pattern (R202). -/
def schedSigma (i : Nat) (s : State) : Option Dword := s.read64 .sigma i

/-- `sched_delta(i) = fsub64(SIGMA[i+1], SIGMA[i])` (R203). -/
def schedDelta (i : Nat) (s : State) : Option Dword :=
  match s.read64 .sigma (i + 1), s.read64 .sigma i with
  | some hi, some lo => some (fsub64 hi lo)
  | _, _ => none

/-- The pattern `TS[i]` that `sched_timestep(i)` rounds (R207). -/
def schedTimestep (i : Nat) (s : State) : Option Dword := s.read64 .ts i

/-! Element functions. -/

/-- `gauss(u1, u2)` (R186). -/
def gauss (f : RealFns) (u1 u2 : Dword) : Half :=
  let radius := fsqrt64 (fmul64 NEG_TWO64 (ln64 f u1))
  let theta := fmul64 TWO_PI64 u2
  d2h (fmul64 radius (cos64 f theta))

/-- An element multiplied by a binary64 (R218, R219). -/
def scaleHalf (x : Dword) (h : Half) : Half := d2h (fmul64 (h2d h) x)

/-- `inv = 1 / sqrt(sigma^2 + 1)`, one rounding an operation (R219). -/
def viewFactor (sg : Dword) : Dword := fdiv64 ONE64 (fsqrt64 (fadd64 (fmul64 sg sg) ONE64))

/-- `cfg_blend(p, n, pw, nw)` (R220). -/
def cfgBlend (p n : Half) (pw nw : Dword) : Dword := fadd64 (fmul64 (h2d p) pw) (fmul64 (h2d n) nw)

/-- `nw = fsub64(ONE64, GSCALE)` (R220, R226). -/
def negativeWeight (pw : Dword) : Dword := fsub64 ONE64 pw

/-- `euler(s, bl, delta)` (R221). -/
def euler (s : Half) (bl delta : Dword) : Half := d2h (fadd64 (h2d s) (fmul64 bl delta))

/-- One element of a guided step: the blend, then the Euler update (R222, R223). -/
def stepElem (gscale delta : Dword) (s p n : Half) : Half :=
  euler s (cfgBlend p n gscale (negativeWeight gscale)) delta

/-- One element of the post-processing scaler: a division (R229). -/
def vaeElem (scale : Dword) (h : Half) : Half := d2h (fdiv64 (h2d h) scale)

end Sys2Proof.Machine
end

