-- ==== Sys2Proof/Machine/Flags.lean ====
section
/-! DEFINITION. The flags: there are no arithmetic flags (R35, R140); the status register's fields and the word a host
reads (R22). -/

namespace Sys2Proof.Machine

open Sys2Proof

/-- The code of a fault in `STATUS.FAULT` (R22, R260). -/
def FaultCode.code : FaultCode → BitVec 4
  | .noFault => 0
  | .shapeMismatch => 1
  | .unsupportedDType => 2
  | .scheduleExhausted => 3
  | .illegalCommand => 4

/-- `TERM`, not stored: 1 exactly when `IVALID = 1` and `ITER >= N` (R35). -/
def State.term (s : State) : Bool := s.ivalid && decide (s.iterCount ≤ s.iter.toNat)

/-- The word `STATUS` reads as: `ITER` in 31:16, zeros in 15:6, `TERM` in 5, `IVALID` in 4, `FAULT` in 3:0 (R22). -/
def State.statusWord (s : State) : Word :=
  s.iter ++ (0 : BitVec 10) ++ BitVec.ofBool s.term ++ BitVec.ofBool s.ivalid ++ s.fault.code

end Sys2Proof.Machine
end

