-- ==== Sys2Proof/Machine/Codec.lean ====
section
/-! DEFINITION. The Half-Precision Codec's commands (R151, R161, R164). -/

namespace Sys2Proof.Machine

open Sys2Proof

/-- `ENC dt` (R151): `RES <- zext_64(encode(OPA))`. -/
def execEnc (dt : Tag) (s : State) : Host.Outcome State Fault Refusal :=
  guarded (.enc dt) [checkTag dt] (fun s => some (s.setRes ((encodeHalf s.opa).setWidth 64))) s

/-- `DEC dt` (R161): `RES <- zext_64(decode(OPA[15:0]))`. -/
def execDec (dt : Tag) (s : State) : Host.Outcome State Fault Refusal :=
  guarded (.dec dt) [checkTag dt]
    (fun s => some (s.setRes ((decodeHalf (s.opa.extractLsb' 0 16)).setWidth 64))) s

end Sys2Proof.Machine
end

