-- ==== Sys2Proof/Machine/Control.lean ====
section
/-! DEFINITION. The control commands (R250 to R253). -/

namespace Sys2Proof.Machine

open Sys2Proof

/-- `NOP` (R250): no state is written. -/
def execNop (s : State) : Host.Outcome State Fault Refusal := guarded .nop [] (fun s => some s) s

/-- `ABORT` (R251): `IVALID <- 0 ; ITER <- 0`. -/
def execAbort (s : State) : Host.Outcome State Fault Refusal :=
  guarded .abort [] (fun s => some (s.setRun false 0)) s

/-- `CLRF` (R252): `FAULT <- 0 ; FCMD <- 0`. -/
def execClrf (s : State) : Host.Outcome State Fault Refusal := guarded .clrf [] (fun s => some s.clearFault) s

end Sys2Proof.Machine
end

