-- ==== Sys2Proof/Machine/Latent.lean ====
section
/-! DEFINITION. Latent State, Denoising Step and Post-processing scaler: the commands of R217 to R229. Each element body
is the loop body of its rule's pseudocode. -/

namespace Sys2Proof.Machine

open Sys2Proof

/-- `MemWrite(LAT[E + k], 16, MemRead(LAT[k], 16))` (R217). -/
def dupElem (e k : Nat) (s : State) : Option State := (s.read16 .lat k).bind fun h => s.write16 .lat (e + k) h

/-- `DUP` (R217). -/
def execDup (s : State) : Host.Outcome State Fault Refusal :=
  guarded .dup [checkElems s] (fun s => forElems (dupElem s.elems) s.elems 0 s) s

/-- `MemWrite(LAT[k], 16, d2h(fmul64(h2d(MemRead(LAT[k], 16)), s0)))` (R218). -/
def prescElem (s0 : Dword) (k : Nat) (s : State) : Option State :=
  (s.read16 .lat k).bind fun h => s.write16 .lat k (scaleHalf s0 h)

/-- `PRESC` (R218): the prescale, then `IVALID <- 1 ; ITER <- 0`. -/
def execPresc (s : State) : Host.Outcome State Fault Refusal :=
  guarded .presc [checkElems s, checkSigma 0 s]
    (fun s => (schedSigma 0 s).bind fun s0 =>
      (forElems (prescElem s0) s.elems 0 s).map fun s' => s'.setRun true 0) s

/-- Both slots of the scaled view written with one value (R219). -/
def sviewElem (inv : Dword) (e k : Nat) (s : State) : Option State :=
  (s.read16 .lat k).bind fun h =>
    (s.write16 .scr k (scaleHalf inv h)).bind fun s' => s'.write16 .scr (e + k) (scaleHalf inv h)

/-- `SVIEW` (R219). -/
def execSview (s : State) : Host.Outcome State Fault Refusal :=
  guarded .sview [checkElems s, checkIterDefined s, checkSigma s.iter.toNat s]
    (fun s => (schedSigma s.iter.toNat s).bind fun sg =>
      forElems (sviewElem (viewFactor sg) s.elems) s.elems 0 s) s

/-- One element of the combined step (R222): `PRED[k]` the positive and `PRED[E + k]` the negative prediction. -/
def stepcElem (gscale delta : Dword) (e k : Nat) (s : State) : Option State :=
  (s.read16 .pred k).bind fun p => (s.read16 .pred (e + k)).bind fun n => (s.read16 .lat k).bind fun h =>
    s.write16 .lat k (stepElem gscale delta h p n)

/-- `STEPC` (R222). -/
def execStepc (s : State) : Host.Outcome State Fault Refusal :=
  guarded .stepc
    [checkPredDtypeC s, checkPredShapeC s, checkElems s, checkIterDefined s, checkDelta s.iter.toNat s]
    (fun s => (schedDelta s.iter.toNat s).bind fun delta =>
      (forElems (stepcElem s.gscale delta s.elems) s.elems 0 s).map fun s' => s'.setRun s'.ivalid (s'.iter + 1)) s

/-- One element of the split step (R223): `PREDP[k]` the positive and `PREDN[k]` the negative prediction. -/
def stepsElem (gscale delta : Dword) (k : Nat) (s : State) : Option State :=
  (s.read16 .predp k).bind fun p => (s.read16 .predn k).bind fun n => (s.read16 .lat k).bind fun h =>
    s.write16 .lat k (stepElem gscale delta h p n)

/-- `STEPS` (R223). -/
def execSteps (s : State) : Host.Outcome State Fault Refusal :=
  guarded .steps
    [checkPredDtypeS s, checkPredShapeS s, checkElems s, checkIterDefined s, checkDelta s.iter.toNat s]
    (fun s => (schedDelta s.iter.toNat s).bind fun delta =>
      (forElems (stepsElem s.gscale delta) s.elems 0 s).map fun s' => s'.setRun s'.ivalid (s'.iter + 1)) s

/-- `MemWrite(OUT[k], 16, d2h(fdiv64(h2d(MemRead(LAT[k], 16)), VAESCALE)))` (R229). -/
def vscaleElem (scale : Dword) (k : Nat) (s : State) : Option State :=
  (s.read16 .lat k).bind fun h => s.write16 .out k (vaeElem scale h)

/-- `VSCALE` (R229). -/
def execVscale (s : State) : Host.Outcome State Fault Refusal :=
  guarded .vscale [checkElems s] (fun s => forElems (vscaleElem s.vaescale) s.elems 0 s) s

end Sys2Proof.Machine
end

