-- ==== Sys2Proof/Machine/Prng.lean ====
section
/-! DEFINITION. The Deterministic PRNG's commands (R171, R173). -/

namespace Sys2Proof.Machine

open Sys2Proof

/-- `SEED` (R171): the PRNG file loaded from the seed registers. -/
def execSeed (s : State) : Host.Outcome State Fault Refusal := guarded .seed [] (fun s => some s.seedPrng) s

/-- `NEXT` (R173): one application of `PRNG_STEP`; `RES <- unit(t)`. -/
def execNext (s : State) : Host.Outcome State Fault Refusal :=
  guarded .next [] (fun s => some (s.afterDraw.setRes (unit s.drawWord))) s

end Sys2Proof.Machine
end

