-- ==== Sys2Proof/Machine/Sampler.lean ====
section
/-! DEFINITION. The Noise Sampler's command (R185). -/

namespace Sys2Proof.Machine

open Sys2Proof

/-- Element `k` of `FILLN` (R185, R187): two consecutive draws, `u1` then `u2`, one sample written. -/
def fillElem (k : Nat) (s : State) : Option State :=
  let s1 := s.afterDraw
  let s2 := s1.afterDraw
  s2.write16 .lat k (gauss s.hw.reals (unit s.drawWord) (unit s1.drawWord))

/-- `FILLN` (R185): the shape check, the reseeding, then the `E` elements in order. -/
def execFilln (s : State) : Host.Outcome State Fault Refusal :=
  guarded .filln [checkElems s] (fun s => forElems fillElem s.elems 0 s.seedPrng) s

end Sys2Proof.Machine
end

