-- ==== Sys2Proof/Machine/Schedule.lean ====
section
/-! DEFINITION. The Noise Schedule store's commands (R204, R205, R206). -/

namespace Sys2Proof.Machine

open Sys2Proof

/-- `SIGMA i` (R204): `RES <- sched_sigma(i)`. -/
def execSigma (i : Nat) (s : State) : Host.Outcome State Fault Refusal :=
  guarded (.sigma i) [checkSigma i s] (fun s => (schedSigma i s).map fun v => s.setRes v) s

/-- `DELTA i` (R205): `RES <- sched_delta(i)`. -/
def execDelta (i : Nat) (s : State) : Host.Outcome State Fault Refusal :=
  guarded (.delta i) [checkDelta i s] (fun s => (schedDelta i s).map fun v => s.setRes v) s

/-- `RES <- sext_64(round_away(d))` where that is specified, otherwise a free value (R124, R206, U4; log entry 6). -/
def State.setTimestep (d : Dword) (s : State) : State :=
  match roundAway d with
  | some r => s.setRes (BitVec.ofInt 64 r)
  | none => s.countFree.setRes s.freeValue

/-- `TSTEP i` (R206): `RES <- sext_64(sched_timestep(i))`. -/
def execTstep (i : Nat) (s : State) : Host.Outcome State Fault Refusal :=
  guarded (.tstep i) [checkTimestep i s] (fun s => (schedTimestep i s).map fun d => s.setTimestep d) s

end Sys2Proof.Machine
end

