-- ==== Sys2Proof/Machine/Dispatch.lean ====
section
/-! DEFINITION. One arm per command (R96): the pseudocode of the command's rule, run by the dispatch of R281 when
`FAULT = 0` (Machine/Command.lean). -/

namespace Sys2Proof.Machine

open Sys2Proof

def exec (i : Instr) (s : State) : Host.Outcome State Fault Refusal :=
  match i with
  | .nop => Sys2Proof.Machine.execNop s
  | .abort => Sys2Proof.Machine.execAbort s
  | .clrf => Sys2Proof.Machine.execClrf s
  | .enc dt => Sys2Proof.Machine.execEnc dt s
  | .dec dt => Sys2Proof.Machine.execDec dt s
  | .seed => Sys2Proof.Machine.execSeed s
  | .next => Sys2Proof.Machine.execNext s
  | .filln => Sys2Proof.Machine.execFilln s
  | .dup => Sys2Proof.Machine.execDup s
  | .presc => Sys2Proof.Machine.execPresc s
  | .sview => Sys2Proof.Machine.execSview s
  | .stepc => Sys2Proof.Machine.execStepc s
  | .steps => Sys2Proof.Machine.execSteps s
  | .vscale => Sys2Proof.Machine.execVscale s
  | .sigma k => Sys2Proof.Machine.execSigma k s
  | .delta k => Sys2Proof.Machine.execDelta k s
  | .tstep k => Sys2Proof.Machine.execTstep k s

end Sys2Proof.Machine
end

