-- ==== Sys2Proof/Machine/RegisterMap.lean ====
section
/-! DEFINITION. The register map (R34): numbers, widths, host rights; a register read and written whole (R60, R68). -/

namespace Sys2Proof.Machine

open Sys2Proof

/-- The registers of R34. -/
inductive Reg where
  | cmd | status | opa | res
  | seed0 | seed1 | seed2 | seed3
  | prngA | prngB | prngC | prngD
  | niter | gscale | vaescale | fcmd
  | latC | latH | latW
  | predDt | predDim0 | predDim1 | predDim2 | predDim3
  | predpDt | predpDim0 | predpDim1 | predpDim2 | predpDim3
  | prednDt | prednDim0 | prednDim1 | prednDim2 | prednDim3
deriving DecidableEq, Repr

/-- Host rights (R34): read and write, read only, write only. -/
inductive Access where
  | rw | r | w
deriving DecidableEq, Repr

/-- The register of a number; `none` for a reserved number (R34, R77). -/
def regOfNumber : Nat → Option Reg
  | 0x00 => some .cmd
  | 0x01 => some .status
  | 0x02 => some .opa
  | 0x03 => some .res
  | 0x04 => some .seed0
  | 0x05 => some .seed1
  | 0x06 => some .seed2
  | 0x07 => some .seed3
  | 0x08 => some .prngA
  | 0x09 => some .prngB
  | 0x0A => some .prngC
  | 0x0B => some .prngD
  | 0x0C => some .niter
  | 0x0D => some .gscale
  | 0x0E => some .vaescale
  | 0x0F => some .fcmd
  | 0x10 => some .latC
  | 0x11 => some .latH
  | 0x12 => some .latW
  | 0x18 => some .predDt
  | 0x19 => some .predDim0
  | 0x1A => some .predDim1
  | 0x1B => some .predDim2
  | 0x1C => some .predDim3
  | 0x20 => some .predpDt
  | 0x21 => some .predpDim0
  | 0x22 => some .predpDim1
  | 0x23 => some .predpDim2
  | 0x24 => some .predpDim3
  | 0x28 => some .prednDt
  | 0x29 => some .prednDim0
  | 0x2A => some .prednDim1
  | 0x2B => some .prednDim2
  | 0x2C => some .prednDim3
  | _ => none

/-- The width of a register in bits (R8, R34). -/
def Reg.width : Reg → Nat
  | .res | .gscale | .vaescale => 64
  | .niter => 16
  | .predDt | .predpDt | .prednDt => 4
  | .cmd | .status | .opa | .fcmd => 32
  | .seed0 | .seed1 | .seed2 | .seed3 | .prngA | .prngB | .prngC | .prngD => 32
  | .latC | .latH | .latW => 32
  | .predDim0 | .predDim1 | .predDim2 | .predDim3 => 32
  | .predpDim0 | .predpDim1 | .predpDim2 | .predpDim3 => 32
  | .prednDim0 | .prednDim1 | .prednDim2 | .prednDim3 => 32

/-- The host's rights to a register (R34). -/
def Reg.access : Reg → Access
  | .cmd => .w
  | .status | .res | .fcmd | .prngA | .prngB | .prngC | .prngD => .r
  | .opa | .seed0 | .seed1 | .seed2 | .seed3 | .niter | .gscale | .vaescale | .latC | .latH | .latW => .rw
  | .predDt | .predDim0 | .predDim1 | .predDim2 | .predDim3 => .rw
  | .predpDt | .predpDim0 | .predpDim1 | .predpDim2 | .predpDim3 => .rw
  | .prednDt | .prednDim0 | .prednDim1 | .prednDim2 | .prednDim3 => .rw

/-- The whole register, in 64 bits; no read has a side effect (R60, R68). `CMD` holds nothing (R21). -/
def State.readReg (r : Reg) (s : State) : Dword :=
  match r with
  | .cmd => 0
  | .status => s.statusWord.setWidth 64
  | .opa => s.opa.setWidth 64
  | .res => s.res
  | .seed0 => s.seed0.setWidth 64
  | .seed1 => s.seed1.setWidth 64
  | .seed2 => s.seed2.setWidth 64
  | .seed3 => s.seed3.setWidth 64
  | .prngA => s.prng.a.setWidth 64
  | .prngB => s.prng.b.setWidth 64
  | .prngC => s.prng.c.setWidth 64
  | .prngD => s.prng.d.setWidth 64
  | .niter => s.niter.setWidth 64
  | .gscale => s.gscale
  | .vaescale => s.vaescale
  | .fcmd => s.fcmd.setWidth 64
  | .latC => s.latC.setWidth 64
  | .latH => s.latH.setWidth 64
  | .latW => s.latW.setWidth 64
  | .predDt => s.predDesc.dt.setWidth 64
  | .predDim0 => s.predDesc.dim0.setWidth 64
  | .predDim1 => s.predDesc.dim1.setWidth 64
  | .predDim2 => s.predDesc.dim2.setWidth 64
  | .predDim3 => s.predDesc.dim3.setWidth 64
  | .predpDt => s.predpDesc.dt.setWidth 64
  | .predpDim0 => s.predpDesc.dim0.setWidth 64
  | .predpDim1 => s.predpDesc.dim1.setWidth 64
  | .predpDim2 => s.predpDesc.dim2.setWidth 64
  | .predpDim3 => s.predpDesc.dim3.setWidth 64
  | .prednDt => s.prednDesc.dt.setWidth 64
  | .prednDim0 => s.prednDesc.dim0.setWidth 64
  | .prednDim1 => s.prednDesc.dim1.setWidth 64
  | .prednDim2 => s.prednDesc.dim2.setWidth 64
  | .prednDim3 => s.prednDesc.dim3.setWidth 64

/-- The whole register written, every bit stored (R34). A register that the host may not write keeps its value here; the
write itself is refused before (R77). -/
def State.writeReg (r : Reg) (v : Dword) (s : State) : State :=
  match r with
  | .cmd | .status | .res | .fcmd | .prngA | .prngB | .prngC | .prngD => s
  | .opa => { s with opa := v.setWidth 32 }
  | .seed0 => { s with seed0 := v.setWidth 32 }
  | .seed1 => { s with seed1 := v.setWidth 32 }
  | .seed2 => { s with seed2 := v.setWidth 32 }
  | .seed3 => { s with seed3 := v.setWidth 32 }
  | .niter => { s with niter := v.setWidth 16 }
  | .gscale => { s with gscale := v }
  | .vaescale => { s with vaescale := v }
  | .latC => { s with latC := v.setWidth 32 }
  | .latH => { s with latH := v.setWidth 32 }
  | .latW => { s with latW := v.setWidth 32 }
  | .predDt => { s with predDesc := { s.predDesc with dt := v.setWidth 4 } }
  | .predDim0 => { s with predDesc := { s.predDesc with dim0 := v.setWidth 32 } }
  | .predDim1 => { s with predDesc := { s.predDesc with dim1 := v.setWidth 32 } }
  | .predDim2 => { s with predDesc := { s.predDesc with dim2 := v.setWidth 32 } }
  | .predDim3 => { s with predDesc := { s.predDesc with dim3 := v.setWidth 32 } }
  | .predpDt => { s with predpDesc := { s.predpDesc with dt := v.setWidth 4 } }
  | .predpDim0 => { s with predpDesc := { s.predpDesc with dim0 := v.setWidth 32 } }
  | .predpDim1 => { s with predpDesc := { s.predpDesc with dim1 := v.setWidth 32 } }
  | .predpDim2 => { s with predpDesc := { s.predpDesc with dim2 := v.setWidth 32 } }
  | .predpDim3 => { s with predpDesc := { s.predpDesc with dim3 := v.setWidth 32 } }
  | .prednDt => { s with prednDesc := { s.prednDesc with dt := v.setWidth 4 } }
  | .prednDim0 => { s with prednDesc := { s.prednDesc with dim0 := v.setWidth 32 } }
  | .prednDim1 => { s with prednDesc := { s.prednDesc with dim1 := v.setWidth 32 } }
  | .prednDim2 => { s with prednDesc := { s.prednDesc with dim2 := v.setWidth 32 } }
  | .prednDim3 => { s with prednDesc := { s.prednDesc with dim3 := v.setWidth 32 } }

end Sys2Proof.Machine
end

