-- ==== Sys2Proof/Machine/Command.lean ====
section
/-! DEFINITION. What an input does: the dispatch of a command word (R281), the host's register and memory primitives
(R60), their refusals (R77), and the reset event (R290). -/

namespace Sys2Proof.Machine

open Sys2Proof

/-- The one word that acts while `FAULT != 0` (R252, R281). -/
def clrfWord : Word := 0x00000002

/-- `HostCommand(w)`: the dispatch of R281. In the faulted state only the exact word of `CLRF` acts and every other word
changes nothing (R268); otherwise an illegal word raises `IllegalCommand` (R264) and a legal one runs its command. -/
def hostCommand (w : Word) (s : State) : Host.Outcome State Fault Refusal :=
  if s.fault ≠ .noFault then
    (if w = clrfWord then .next s.clearFault else .next s)
  else
    match decode w with
    | .ok i => exec i s
    | .error _ => .next (s.raise .illegalCommand w)

/-- The value fits `bits` bits (R60: a write carries a value of the register's or element's width). -/
def fits (bits : Nat) (v : Dword) : Bool := decide (v.toNat < 2 ^ bits)

/-- `HostWriteReg(no, v)` (R60), `CMD` running a command (R21); what has no meaning is refused (R77). -/
def hostWriteReg (no : Nat) (v : Dword) (s : State) : Host.Outcome State Fault Refusal :=
  match regOfNumber no with
  | none => .refused (.undefinedRegister no)
  | some r =>
    if r.access = .r then .refused (.readOnlyRegister no)
    else if fits r.width v = false then .refused .valueTooWide
    else if r = .cmd then hostCommand (v.setWidth 32) s
    else .next (s.writeReg r v)

/-- `HostReadReg(no)` (R60). -/
def hostReadReg (no : Nat) (s : State) : Host.Outcome State Fault Refusal :=
  match regOfNumber no with
  | none => .refused (.undefinedRegister no)
  | some r =>
    if r.access = .w then .refused (.writeOnlyRegister no)
    else .next { s with reply := some (s.readReg r) }

/-- The number of elements of a memory (R62, R64). -/
def memSize (h : Hardware) : MemName → Nat
  | .buf b => bufSize h b
  | .sched t => schedSize h t

/-- The width in bits of an element (R62, R64). -/
def memWidth : MemName → Nat
  | .buf _ => 16
  | .sched _ => 64

/-- The host may write the memory (R62, R64): all but `SCR` and `OUT`. -/
def memWritable : MemName → Bool
  | .buf .scr | .buf .out => false
  | .buf .lat | .buf .pred | .buf .predp | .buf .predn => true
  | .sched _ => true

/-- Element `i` of a memory, in 64 bits (R60). -/
def State.readElem (m : MemName) (i : Nat) (s : State) : Dword :=
  match m with
  | .buf b => (s.half b i).setWidth 64
  | .sched t => s.dword t i

/-- Element `i` of a memory written (R60). -/
def State.writeElem (m : MemName) (i : Nat) (v : Dword) (s : State) : State :=
  match m with
  | .buf b => s.setBuf b ((s.buf b).putHalf i (v.setWidth 16))
  | .sched t => s.setSched t ((s.sched t).putDword i v)

/-- `HostWriteBuf(B, i, v)` (R60, R62, R64); what has no meaning is refused (R77). -/
def hostWriteBuf (m : MemName) (i : Nat) (v : Dword) (s : State) : Host.Outcome State Fault Refusal :=
  if memWritable m = false then .refused (.readOnlyMemory m)
  else if memSize s.hw m ≤ i then .refused (.indexOutOfRange m i)
  else if fits (memWidth m) v = false then .refused .valueTooWide
  else .next (s.writeElem m i v)

/-- `HostReadBuf(B, i)` (R60). -/
def hostReadBuf (m : MemName) (i : Nat) (s : State) : Host.Outcome State Fault Refusal :=
  if memSize s.hw m ≤ i then .refused (.indexOutOfRange m i)
  else .next { s with reply := some (s.readElem m i) }

/-- What one input does (R60, R290). -/
def takeInput (x : Input) (s : State) : Host.Outcome State Fault Refusal :=
  match x with
  | .writeReg no v => hostWriteReg no v s
  | .readReg no => hostReadReg no s
  | .writeBuf m i v => hostWriteBuf m i v s
  | .readBuf m i => hostReadBuf m i s
  | .reset => .next s.doReset

/-- `HostCommand(w)` as an input: "the same as `HostWriteReg(0x00, w)`" (R60). -/
def commandInput (w : Word) : Input := .writeReg 0x00 (w.setWidth 64)

/-- An input taken from the queue: it is no longer to come, and nothing has been returned to the host yet. -/
def State.popInput (rest : List Input) (s : State) : State := { s with inputs := rest, reply := none }

end Sys2Proof.Machine
end

