-- ==== Sys2Proof/Machine/Step.lean ====
section
/-! DEFINITION. One step: one input from outside (R70, R71, R309). With none to come the block idles: nothing runs by
itself (R291; log entry 7). -/

namespace Sys2Proof.Machine

open Sys2Proof

/-- One step of the machine. -/
def step (s : State) : Host.Outcome State Fault Refusal :=
  match s.inputs with
  | [] => .next s
  | x :: rest => takeInput x (s.popInput rest)

/-- The state whose next input is the command word of a table row's bits (R74: a command word is data in the host until
it is written to `CMD`; R90). -/
def State.withFetchWord (s : State) (nbits w : Nat) : State :=
  { s with inputs := commandInput (BitVec.ofNat 32 (w % 2 ^ nbits)) :: s.inputs }

end Sys2Proof.Machine
end

