-- ==== Sys2Proof/Safety.lean ====
section
/-! DEFINITION. What a good state is, and the words the statements use. -/

namespace Sys2Proof.Machine

open Sys2Proof

/-- A memory of `size` elements of `w` bytes: in canonical form, with nothing listed beyond its last element (R62, R64,
R77). -/
abbrev Memory.within (m : Memory) (w size : Nat) : Prop := m.wf ∧ ∀ c ∈ m, c.1 < elemAddr w size

/-- Every memory is in canonical form and within its size. -/
structure State.MemoryOk (s : State) : Prop where
  bufs : ∀ b, (s.buf b).within 2 (bufSize s.hw b)
  scheds : ∀ t, (s.sched t).within 8 (schedSize s.hw t)

/-- The invariant of the block: the capacities are R7's; the memories are canonical and within their sizes; an undefined
iteration index is 0 (R36, R253); a faulted block has no run (R266); an unfaulted block records no word (R33, R39). -/
structure State.Inv (s : State) : Prop where
  hardware : s.hw.legal
  memory : s.MemoryOk
  undefinedIter : s.ivalid = false → s.iter = 0
  faulted : s.fault ≠ .noFault → s.ivalid = false
  unfaulted : s.fault = .noFault → s.fcmd = 0

/-- The opcodes of R96. -/
def opcodesZ : List Nat := [0x00, 0x01, 0x02, 0x20, 0x21, 0x30, 0x31, 0x32, 0x33, 0x34, 0x35, 0x36]
def opcodesT : List Nat := [0x10, 0x11]
def opcodesI : List Nat := [0x40, 0x41, 0x42]

/-- A word that the decoder rejects. -/
def illegalWord (w : Word) : Prop := ∃ e, decode w = .error e

/-- `w` is the one word of the format-Z command `i`: every other word with its opcode is illegal (R95, R98). -/
def soleWord (i : Instr) (w : Word) : Prop :=
  encode i = w ∧ decode w = .ok i ∧ ∀ v, opField v = opField w → v ≠ w → illegalWord v

/-- Byte `a` of a halfword memory lies outside the elements `first .. first + count - 1`, each at the address the
commands store it to. -/
def outsideHalves (first count a : Nat) : Prop :=
  ∀ k, k < count → a ≠ elemAddr 2 (first + k) ∧ a ≠ elemAddr 2 (first + k) + 1

/-- The PRNG words after `n` draws (R174). -/
def prngAfter (f : PrngProgram) (p : PrngWords) : Nat → PrngWords
  | 0 => p
  | n + 1 => prngNext f (prngAfter f p n)

/-- Draw number `n`, counting from 0 after the seeding, of the sequence that starts from the words `p` (R187). -/
def drawNumber (f : PrngProgram) (p : PrngWords) (n : Nat) : Dword := unit (prngOut f (prngAfter f p n))

/-- The units of a magnitude pattern of a format with `fbits` fraction bits (R100 to R102). -/
def unitsOfMag (fbits m : Nat) : Nat := unitsOf fbits (m / 2 ^ fbits) (m % 2 ^ fbits)

/-- The distance of a magnitude pattern's value from `num / den` units, times `den`. -/
def distanceOfMag (fbits num den m : Nat) : Nat := ((num : Int) - (den * unitsOfMag fbits m : Nat)).natAbs

/-- R125: `m` is the magnitude pattern that `num / den` units round to, to nearest, ties to even, in the format of `fbits`
fraction bits whose infinity has the exponent field `top`: the infinity from the midpoint above the largest finite value
on; below it a finite pattern, none nearer, the even one of two equally near. -/
def nearestMag (fbits top num den m : Nat) : Prop :=
  m ≤ top * 2 ^ fbits ∧
  (m = top * 2 ^ fbits ↔ den * ((2 ^ (fbits + 2) - 1) * 2 ^ (top - 3)) ≤ num) ∧
  (m < top * 2 ^ fbits → ∀ m' : Nat, m' < top * 2 ^ fbits → m' ≠ m →
    distanceOfMag fbits num den m ≤ distanceOfMag fbits num den m' ∧
    (distanceOfMag fbits num den m = distanceOfMag fbits num den m' → m % 2 = 0))

/-- The order of values, NaN apart: the infinities at the ends, the two zeros equal. -/
def notAbove : FpVal → FpVal → Prop
  | .nan, _ => False
  | _, .nan => False
  | .inf a, .inf b => a = true ∨ b = false
  | .inf a, .fin _ _ => a = true
  | .fin _ _, .inf b => b = false
  | .fin a m, .fin b n => signedUnits a m ≤ signedUnits b n

/-- A binary32 value (in units of `2^-149`) that is a binary16 value (in units of `2^-24`): equal infinities, or equal
finite values with equal signs (R162). -/
def sameValue : FpVal → FpVal → Prop
  | .inf a, .inf b => a = b
  | .fin a u, .fin b v => a = b ∧ u = v * 2 ^ 125
  | _, _ => False

/-! The tables of the spec that the statements about host accesses use, written out from the spec and from no definition
of the register map or of the memories. -/

/-- The RW rows of R34: a register's number, its width in bits, and the state `t` with that register holding `v`. -/
def registerWrites (t : State) (v : Dword) : List (Nat × Nat × State) :=
  [(0x02, 32, { t with opa := v.setWidth 32 }),
    (0x04, 32, { t with seed0 := v.setWidth 32 }),
    (0x05, 32, { t with seed1 := v.setWidth 32 }),
    (0x06, 32, { t with seed2 := v.setWidth 32 }),
    (0x07, 32, { t with seed3 := v.setWidth 32 }),
    (0x0C, 16, { t with niter := v.setWidth 16 }),
    (0x0D, 64, { t with gscale := v }),
    (0x0E, 64, { t with vaescale := v }),
    (0x10, 32, { t with latC := v.setWidth 32 }),
    (0x11, 32, { t with latH := v.setWidth 32 }),
    (0x12, 32, { t with latW := v.setWidth 32 }),
    (0x18, 4, { t with predDesc := { t.predDesc with dt := v.setWidth 4 } }),
    (0x19, 32, { t with predDesc := { t.predDesc with dim0 := v.setWidth 32 } }),
    (0x1A, 32, { t with predDesc := { t.predDesc with dim1 := v.setWidth 32 } }),
    (0x1B, 32, { t with predDesc := { t.predDesc with dim2 := v.setWidth 32 } }),
    (0x1C, 32, { t with predDesc := { t.predDesc with dim3 := v.setWidth 32 } }),
    (0x20, 4, { t with predpDesc := { t.predpDesc with dt := v.setWidth 4 } }),
    (0x21, 32, { t with predpDesc := { t.predpDesc with dim0 := v.setWidth 32 } }),
    (0x22, 32, { t with predpDesc := { t.predpDesc with dim1 := v.setWidth 32 } }),
    (0x23, 32, { t with predpDesc := { t.predpDesc with dim2 := v.setWidth 32 } }),
    (0x24, 32, { t with predpDesc := { t.predpDesc with dim3 := v.setWidth 32 } }),
    (0x28, 4, { t with prednDesc := { t.prednDesc with dt := v.setWidth 4 } }),
    (0x29, 32, { t with prednDesc := { t.prednDesc with dim0 := v.setWidth 32 } }),
    (0x2A, 32, { t with prednDesc := { t.prednDesc with dim1 := v.setWidth 32 } }),
    (0x2B, 32, { t with prednDesc := { t.prednDesc with dim2 := v.setWidth 32 } }),
    (0x2C, 32, { t with prednDesc := { t.prednDesc with dim3 := v.setWidth 32 } })]

/-- The RW and R rows of R34 that are a field of the state: a register's number and what it holds, in 64 bits. (The other
R row, `STATUS`, is put together of fields, R22.) -/
def registerReads (s : State) : List (Nat × Dword) :=
  [(0x02, s.opa.setWidth 64), (0x03, s.res),
    (0x04, s.seed0.setWidth 64), (0x05, s.seed1.setWidth 64), (0x06, s.seed2.setWidth 64), (0x07, s.seed3.setWidth 64),
    (0x08, s.prng.a.setWidth 64), (0x09, s.prng.b.setWidth 64), (0x0A, s.prng.c.setWidth 64),
    (0x0B, s.prng.d.setWidth 64),
    (0x0C, s.niter.setWidth 64), (0x0D, s.gscale), (0x0E, s.vaescale), (0x0F, s.fcmd.setWidth 64),
    (0x10, s.latC.setWidth 64), (0x11, s.latH.setWidth 64), (0x12, s.latW.setWidth 64),
    (0x18, s.predDesc.dt.setWidth 64), (0x19, s.predDesc.dim0.setWidth 64), (0x1A, s.predDesc.dim1.setWidth 64),
    (0x1B, s.predDesc.dim2.setWidth 64), (0x1C, s.predDesc.dim3.setWidth 64),
    (0x20, s.predpDesc.dt.setWidth 64), (0x21, s.predpDesc.dim0.setWidth 64), (0x22, s.predpDesc.dim1.setWidth 64),
    (0x23, s.predpDesc.dim2.setWidth 64), (0x24, s.predpDesc.dim3.setWidth 64),
    (0x28, s.prednDesc.dt.setWidth 64), (0x29, s.prednDesc.dim0.setWidth 64), (0x2A, s.prednDesc.dim1.setWidth 64),
    (0x2B, s.prednDesc.dim2.setWidth 64), (0x2C, s.prednDesc.dim3.setWidth 64)]

/-- The sizes of R62 and R64. -/
def elementCount (h : Hardware) : MemName → Nat
  | .buf .lat | .buf .scr | .buf .pred => 2 * h.eMax
  | .buf .predp | .buf .predn | .buf .out => h.eMax
  | .sched .sigma => h.nMax + 1
  | .sched .ts => h.nMax

/-- Element `i` of a halfword memory by its bytes `2i` (bits 7:0) and `2i + 1` (R65), in 64 bits. -/
def halfAt (m : Memory) (i : Nat) : Dword := (m.byte (2 * i + 1) ++ m.byte (2 * i)).setWidth 64

/-- Element `i` of a schedule memory by its bytes `8i` (bits 7:0) to `8i + 7` (R65). -/
def dwordAt (m : Memory) (i : Nat) : Dword :=
  m.byte (8 * i + 7) ++ m.byte (8 * i + 6) ++ m.byte (8 * i + 5) ++ m.byte (8 * i + 4) ++
    m.byte (8 * i + 3) ++ m.byte (8 * i + 2) ++ m.byte (8 * i + 1) ++ m.byte (8 * i)

/-- Element `i` of each memory of R62 and R64. -/
def elementOf (s : State) (m : MemName) (i : Nat) : Dword :=
  match m with
  | .buf .lat => halfAt s.lat i
  | .buf .scr => halfAt s.scr i
  | .buf .pred => halfAt s.pred i
  | .buf .predp => halfAt s.predp i
  | .buf .predn => halfAt s.predn i
  | .buf .out => halfAt s.out i
  | .sched .sigma => dwordAt s.sigma i
  | .sched .ts => dwordAt s.ts i

/-- `t` is `s` but for the contents of the memory `m`. -/
def sameButMemory (m : MemName) (s t : State) : Prop :=
  match m with
  | .buf .lat => t = { s with lat := t.lat }
  | .buf .scr => t = { s with scr := t.scr }
  | .buf .pred => t = { s with pred := t.pred }
  | .buf .predp => t = { s with predp := t.predp }
  | .buf .predn => t = { s with predn := t.predn }
  | .buf .out => t = { s with out := t.out }
  | .sched .sigma => t = { s with sigma := t.sigma }
  | .sched .ts => t = { s with ts := t.ts }

end Sys2Proof.Machine
end

