-- ==== Sys2Proof/Certificates/Slice0/Obligations.lean ====
section
/-! DEFINITION. The statements for the provers. `N` is written `min s.niter.toNat s.hw.nMax` (R200) and `E` is
`s.latC.toNat * s.latH.toNat * s.latW.toNat` (R29), each as the spec gives it. -/

open Sys2Proof Sys2Proof.Machine

/-! ## The command word -/

/-- Decoding the word of a command gives the command back, for every command and every operand (R90, R94 to R96). -/
def Obligations.DecodeInvertsEncode : Prop := ∀ i : Instr, i.wellFormed = true → decode (encode i) = .ok i

/-- A word that decodes is the word of the command it decodes to, and that command is well-formed: no bit of a legal word
is dropped (R90, R95, R98). -/
def Obligations.EncodeInvertsDecode : Prop :=
  ∀ (w : Word) (i : Instr), decode w = .ok i → i.wellFormed = true ∧ encode i = w

/-- R96: the words of the 17 commands, each of which decodes to its command; and the match and mask of each format. -/
def Obligations.WordsOfTheOpcodeMap : Prop :=
  (∀ p ∈ [(Instr.nop, (0x00000000 : Word)), (.abort, 0x00000001), (.clrf, 0x00000002), (.seed, 0x00000020),
      (.next, 0x00000021), (.filln, 0x00000030), (.dup, 0x00000031), (.presc, 0x00000032), (.sview, 0x00000033),
      (.stepc, 0x00000034), (.steps, 0x00000035), (.vscale, 0x00000036), (.enc 1, 0x00000110), (.enc 2, 0x00000210),
      (.dec 1, 0x00000111), (.sigma 3, 0x00030040), (.delta 1, 0x00010041), (.tstep 0x18, 0x00180042)],
    encode p.1 = p.2 ∧ decode p.2 = .ok p.1) ∧
  (∀ dt : Tag, (encode (.enc dt)).toNat = dt.toNat * 0x100 + 0x10 ∧ (encode (.dec dt)).toNat = dt.toNat * 0x100 + 0x11) ∧
  (∀ i : Nat, i < 65536 → (encode (.sigma i)).toNat = i * 0x10000 + 0x40 ∧
    (encode (.delta i)).toNat = i * 0x10000 + 0x41 ∧ (encode (.tstep i)).toNat = i * 0x10000 + 0x42) ∧
  (∀ i : Instr, encode i &&& i.format.mask = i.opcode.setWidth 32)

/-- R97: a word whose opcode is none of the 17 raises `IllegalCommand`. -/
def Obligations.UndefinedOpcodeRaisesIllegalCommand : Prop :=
  ∀ (s : State) (w : Word) (rest : List Input), s.fault = .noFault → s.inputs = commandInput w :: rest →
    (opField w).toNat ∉ opcodesZ ++ opcodesT ++ opcodesI →
    step s = .next { s with inputs := rest, reply := none, fault := .illegalCommand, fcmd := w, ivalid := false, iter := 0 }

/-- R98: a defined opcode with a nonzero must-be-zero field raises `IllegalCommand`; in a format-T word with those fields
zero, the tag 1 runs `ENC` (opcode 0x10) or `DEC` (0x11), which completes unfaulted, and every other tag raises
`UnsupportedDType`. -/
def Obligations.NonzeroMustBeZeroFieldRaisesIllegalCommand : Prop :=
  ∀ (s : State) (w : Word) (rest : List Input), s.fault = .noFault → s.inputs = commandInput w :: rest →
    ((opField w).toNat ∈ opcodesZ ++ opcodesT ++ opcodesI →
      (zeroField w ≠ 0 ∨ ((opField w).toNat ∈ opcodesZ ++ opcodesT ∧ immField w ≠ 0) ∨
        ((opField w).toNat ∈ opcodesZ ++ opcodesI ∧ tagField w ≠ 0)) →
      step s =
        .next { s with inputs := rest, reply := none, fault := .illegalCommand, fcmd := w, ivalid := false, iter := 0 }) ∧
    ((opField w).toNat ∈ opcodesT → zeroField w = 0 → immField w = 0 →
      (tagField w = 0x1 →
        (opField w = 0x10 → step s = exec (.enc 0x1) { s with inputs := rest, reply := none }) ∧
        (opField w = 0x11 → step s = exec (.dec 0x1) { s with inputs := rest, reply := none }) ∧
        ∃ t, step s = .next t ∧ t.fault = .noFault) ∧
      (tagField w ≠ 0x1 → step s = .next
        { s with inputs := rest, reply := none, fault := .unsupportedDType, fcmd := w, ivalid := false, iter := 0 }))

/-! ## Dispatch and faults -/

/-- R281, the dispatch of a command word, in full. When the word decodes, the step is `exec` of the command it decodes
to, at the state with that input taken. -/
def Obligations.DispatchOfACommandWord : Prop :=
  ∀ (s : State) (w : Word) (rest : List Input), s.inputs = commandInput w :: rest →
    (s.fault ≠ .noFault → w = 0x00000002 →
      step s = .next { s with inputs := rest, reply := none, fault := .noFault, fcmd := 0 }) ∧
    (s.fault ≠ .noFault → w ≠ 0x00000002 → step s = .next { s with inputs := rest, reply := none }) ∧
    (s.fault = .noFault → illegalWord w → step s =
      .next { s with inputs := rest, reply := none, fault := .illegalCommand, fcmd := w, ivalid := false, iter := 0 }) ∧
    (s.fault = .noFault → ∀ i, decode w = .ok i → step s = exec i { s with inputs := rest, reply := none })

/-- R271: in the faulted state nothing faults: whatever the host does, the recorded fault and word stay as they are, or
are cleared together. -/
def Obligations.FaultsDoNotNest : Prop :=
  ∀ s t : State, s.fault ≠ .noFault → step s = .next t →
    (t.fault = s.fault ∧ t.fcmd = s.fcmd) ∨ (t.fault = .noFault ∧ t.fcmd = 0)

/-- R267: a command either completes unfaulted or does nothing but fault entry (R266). -/
def Obligations.FaultsArePrecise : Prop :=
  ∀ (i : Instr) (s t : State), s.fault = .noFault → exec i s = .next t → t.fault ≠ .noFault →
    t = { s with fault := t.fault, fcmd := encode i, ivalid := false, iter := 0 }

/-- R261: which commands raise `ShapeMismatch`, and exactly when (a dtype fault of a step command comes first, R269). -/
def Obligations.ShapeMismatchExactlyWhen : Prop :=
  ∀ (i : Instr) (s t : State), s.fault = .noFault → exec i s = .next t →
    let tooLarge := s.hw.eMax < s.latC.toNat * s.latH.toNat * s.latW.toNat
    let dims := fun (batch : Word) (d : TensorDesc) =>
      (d.dim0, d.dim1, d.dim2, d.dim3) = (batch, s.latC, s.latH, s.latW)
    (t.fault = .shapeMismatch ↔
      match i with
      | .filln | .dup | .presc | .sview | .vscale => tooLarge
      | .stepc => s.predDesc.dt = 0x1 ∧ (¬ dims 2 s.predDesc ∨ tooLarge)
      | .steps => s.predpDesc.dt = 0x1 ∧ s.prednDesc.dt = 0x1 ∧
          (¬ dims 1 s.predpDesc ∨ ¬ dims 1 s.prednDesc ∨ tooLarge)
      | _ => False) ∧
    (t.fault = .shapeMismatch → t.fcmd = encode i)

/-- R262: which commands raise `UnsupportedDType`, and exactly when. -/
def Obligations.UnsupportedDTypeExactlyWhen : Prop :=
  ∀ (i : Instr) (s t : State), s.fault = .noFault → exec i s = .next t →
    (t.fault = .unsupportedDType ↔
      match i with
      | .enc dt | .dec dt => dt ≠ 0x1
      | .stepc => s.predDesc.dt ≠ 0x1
      | .steps => s.predpDesc.dt ≠ 0x1 ∨ s.prednDesc.dt ≠ 0x1
      | _ => False) ∧
    (t.fault = .unsupportedDType → t.fcmd = encode i ∧ t.predDesc = s.predDesc ∧ t.predpDesc = s.predpDesc ∧
      t.prednDesc = s.prednDesc)

/-- R263, R208: which commands raise `ScheduleExhausted`, and exactly when (dtype and shape faults come first, R269). -/
def Obligations.ScheduleExhaustedExactlyWhen : Prop :=
  ∀ (i : Instr) (s t : State), s.fault = .noFault → exec i s = .next t →
    let n := min s.niter.toNat s.hw.nMax
    let fits := s.latC.toNat * s.latH.toNat * s.latW.toNat ≤ s.hw.eMax
    let dims := fun (batch : Word) (d : TensorDesc) =>
      (d.dim0, d.dim1, d.dim2, d.dim3) = (batch, s.latC, s.latH, s.latW)
    (t.fault = .scheduleExhausted ↔
      match i with
      | .sigma k => n < k
      | .delta k | .tstep k => n ≤ k
      | .sview => fits ∧ (s.ivalid = false ∨ n < s.iter.toNat)
      | .stepc => s.predDesc.dt = 0x1 ∧ dims 2 s.predDesc ∧ fits ∧ (s.ivalid = false ∨ n ≤ s.iter.toNat)
      | .steps => s.predpDesc.dt = 0x1 ∧ s.prednDesc.dt = 0x1 ∧ dims 1 s.predpDesc ∧ dims 1 s.prednDesc ∧ fits ∧
          (s.ivalid = false ∨ n ≤ s.iter.toNat)
      | _ => False) ∧
    (t.fault = .scheduleExhausted → t.fcmd = encode i)

/-- R282, R310: no command makes an out-of-range access, so every command answers with a next state in every state; and no
step of the machine ever stops with a fault. -/
def Obligations.NoCommandAccessesOutOfRange : Prop :=
  (∀ (i : Instr) (s : State), ∃ t, exec i s = .next t) ∧ ∀ (s : State) (f : Fault), step s ≠ .fault f

/-! ## What commands change -/

/-- R253: how each command changes the sequencing state. -/
def Obligations.SequencingStateTable : Prop :=
  (∀ (i : Instr) (s t : State), s.fault = .noFault → exec i s = .next t → t.fault = .noFault →
    match i with
    | .presc => t.iter = 0 ∧ t.ivalid = true ∧ t.fcmd = s.fcmd
    | .stepc | .steps => t.iter.toNat = s.iter.toNat + 1 ∧ s.ivalid = true ∧ t.ivalid = true ∧ t.fcmd = s.fcmd
    | .abort => t.iter = 0 ∧ t.ivalid = false ∧ t.fcmd = s.fcmd
    | .clrf => t.iter = s.iter ∧ t.ivalid = s.ivalid ∧ t.fcmd = 0
    | _ => t.iter = s.iter ∧ t.ivalid = s.ivalid ∧ t.fcmd = s.fcmd) ∧
  (∀ (i : Instr) (s t : State), s.fault = .noFault → exec i s = .next t → t.fault ≠ .noFault →
    t.iter = 0 ∧ t.ivalid = false ∧ t.fcmd = encode i) ∧
  (∀ s : State, ∃ t, exec .clrf s = .next t ∧ t.fault = .noFault ∧ t.fcmd = 0)

/-- The "written by commands" columns of the register map and of the memory tables: no command writes a configuration,
operand or descriptor register, `PRED`, `PREDP`, `PREDN`, `SIGMA` or `TS`; the PRNG file, `LAT`, `SCR` and `OUT` are written
by the commands listed for them only. -/
def Obligations.CommandsWriteOnlyTheirOwnState : Prop :=
  ∀ (i : Instr) (s t : State), exec i s = .next t →
    (t.opa = s.opa ∧ t.seed0 = s.seed0 ∧ t.seed1 = s.seed1 ∧ t.seed2 = s.seed2 ∧ t.seed3 = s.seed3 ∧
      t.niter = s.niter ∧ t.gscale = s.gscale ∧ t.vaescale = s.vaescale ∧ t.latC = s.latC ∧ t.latH = s.latH ∧
      t.latW = s.latW ∧ t.predDesc = s.predDesc ∧ t.predpDesc = s.predpDesc ∧ t.prednDesc = s.prednDesc) ∧
    (t.pred = s.pred ∧ t.predp = s.predp ∧ t.predn = s.predn ∧ t.sigma = s.sigma ∧ t.ts = s.ts) ∧
    (t.hw = s.hw ∧ t.inputs = s.inputs ∧ t.reply = s.reply) ∧
    (i ∉ [Instr.seed, .next, .filln] → t.prng = s.prng) ∧
    (i ∉ [Instr.filln, .dup, .presc, .stepc, .steps] → t.lat = s.lat) ∧
    (i ≠ .sview → t.scr = s.scr) ∧ (i ≠ .vscale → t.out = s.out)

/-- R312: `RES` is written by six commands only, and by none that faults. -/
def Obligations.ResIsSharedBySixCommands : Prop :=
  ∀ (i : Instr) (s t : State), s.fault = .noFault → exec i s = .next t → t.res ≠ s.res →
    t.fault = .noFault ∧
      match i with
      | .enc _ | .dec _ | .next | .sigma _ | .delta _ | .tstep _ => True
      | _ => False

/-! ## Control commands -/

/-- R250: `NOP` writes nothing, faulted or not. -/
def Obligations.NopWritesNothing : Prop :=
  soleWord .nop 0x00000000 ∧ (∀ s : State, exec .nop s = .next s) ∧
  ∀ (s : State) (rest : List Input), s.inputs = commandInput 0x00000000 :: rest →
    step s = .next { s with inputs := rest, reply := none }

/-- `ABORT` clears `IVALID` and `ITER` and nothing else, after which `TERM` reads 0 and `SVIEW` finds no iteration; in the
faulted state it does nothing (46_control.md). -/
def Obligations.AbortClearsTheRun : Prop :=
  soleWord .abort 0x00000001 ∧
  (∀ s : State, exec .abort s = .next { s with ivalid := false, iter := 0 }) ∧
  (∀ s t : State, exec .abort s = .next t → t.term = false ∧
    (t.latC.toNat * t.latH.toNat * t.latW.toNat ≤ t.hw.eMax →
      exec .sview t = .next { t with fault := .scheduleExhausted, fcmd := 0x00000033, ivalid := false, iter := 0 })) ∧
  ∀ (s : State) (rest : List Input), s.fault ≠ .noFault → s.inputs = commandInput 0x00000001 :: rest →
    step s = .next { s with inputs := rest, reply := none }

/-- R252: `CLRF` clears the fault record and nothing else; it runs in the faulted state, where its exact word is the only
one that acts. -/
def Obligations.ClrfClearsTheFaultRecord : Prop :=
  soleWord .clrf 0x00000002 ∧
  (∀ s : State, exec .clrf s = .next { s with fault := .noFault, fcmd := 0 }) ∧
  ∀ (s : State) (w : Word) (rest : List Input), s.inputs = commandInput w :: rest →
    (w = 0x00000002 → step s = .next { s with inputs := rest, reply := none, fault := .noFault, fcmd := 0 }) ∧
    (w ≠ 0x00000002 → s.fault ≠ .noFault → step s = .next { s with inputs := rest, reply := none })

/-! ## The codec -/

/-- R151: `ENC`. -/
def Obligations.EncEncodesOpa : Prop :=
  (∀ v : Word, opField v = 0x10 → (zeroField v ≠ 0 ∨ immField v ≠ 0) → illegalWord v) ∧
  ∀ (s : State) (dt : Tag),
    (dt ≠ 0x1 → exec (.enc dt) s =
      .next { s with fault := .unsupportedDType, fcmd := encode (.enc dt), ivalid := false, iter := 0 }) ∧
    (dt = 0x1 → exec (.enc dt) s = .next { s with res := (encodeHalf s.opa).setWidth 64 })

/-- R161: `DEC`; bits 31:16 of `OPA` are ignored. -/
def Obligations.DecDecodesOpa : Prop :=
  (∀ v : Word, opField v = 0x11 → (zeroField v ≠ 0 ∨ immField v ≠ 0) → illegalWord v) ∧
  ∀ (s : State) (dt : Tag),
    (dt ≠ 0x1 → exec (.dec dt) s =
      .next { s with fault := .unsupportedDType, fcmd := encode (.dec dt), ivalid := false, iter := 0 }) ∧
    (dt = 0x1 → ∀ (top : Half) (h : Half), s.opa = top ++ h →
      exec (.dec dt) s = .next { s with res := (decodeHalf h).setWidth 64 })

/-- R150's result: for every non-NaN `x`, `encode(x)` is the binary16 value nearest to `val32(x)`, ties to even, with
overflow to the infinity of the sign (one binary16 unit is `2^125` binary32 units); a NaN keeps its sign and fraction bits
22:13, the quiet bit forced. -/
def Obligations.EncodeIsTheNearestHalf : Prop :=
  ∀ x : Word,
    (∀ a u, val32 x = .fin a u →
      ∃ m, encodeHalf x = BitVec.ofBool a ++ BitVec.ofNat 15 m ∧ nearestMag 10 31 u (2 ^ 125) m) ∧
    (∀ a, val32 x = .inf a → encodeHalf x = BitVec.ofBool a ++ (0x7C00 : BitVec 15)) ∧
    (val32 x = .nan → encodeHalf x =
      BitVec.ofBool x.msb ++ ((0x1F : BitVec 5) ++ (x.extractLsb' 13 10 ||| 0x200)))

/-- R152: the thresholds of `encode`, on the magnitude in binary32 units (`2^-25` is `2^124` of them). -/
def Obligations.EncodeThresholds : Prop :=
  ∀ (x : Word),
    (∀ a u, val32 x = .fin a u →
      let mag := (encodeHalf x).toNat % 2 ^ 15
      (u ≤ 2 ^ 124 → mag = 0x0000) ∧
      (2 ^ 124 < u → u < 3 * 2 ^ 124 → mag = 0x0001) ∧
      (u = 3 * 2 ^ 124 → mag = 0x0002) ∧
      (2 ^ 124 < u → u < 2047 * 2 ^ 124 → 0x0001 ≤ mag ∧ mag ≤ 0x03FF ∧
        2 * u ≤ (2 * mag + 1) * 2 ^ 125 ∧ (2 * mag - 1) * 2 ^ 125 ≤ 2 * u ∧
        (2 * u = (2 * mag + 1) * 2 ^ 125 ∨ (2 * mag - 1) * 2 ^ 125 = 2 * u → mag % 2 = 0)) ∧
      (2047 * 2 ^ 124 ≤ u → u < 2 ^ 135 → mag = 0x0400) ∧
      (2 ^ 135 ≤ u → u < 65520 * 2 ^ 149 → 0x0400 ≤ mag ∧ mag ≤ 0x7BFF ∧ nearestMag 10 31 u (2 ^ 125) mag) ∧
      (65504 * 2 ^ 149 < u → u < 65520 * 2 ^ 149 → mag = 0x7BFF) ∧
      (65520 * 2 ^ 149 ≤ u → mag = 0x7C00)) ∧
    (∀ a, val32 x = .inf a → (encodeHalf x).toNat % 2 ^ 15 = 0x7C00) ∧
    (val32 x = .nan → 0x7E00 ≤ (encodeHalf x).toNat % 2 ^ 15)

/-- R153: `ENC` with the tag `F16` never faults (a); `encode` keeps the sign (b); a NaN gives a NaN (c); `encode` is
monotone on values (d); and `encode(decode(h)) = h` for every non-NaN `h`, with the quiet bit set for a NaN (e). -/
def Obligations.EncodeProperties : Prop :=
  (∀ s t : State, s.fault = .noFault → exec (.enc 0x1) s = .next t → t.fault = .noFault) ∧
  (∀ x : Word, (encodeHalf x).msb = x.msb) ∧
  (∀ x : Word, val32 x = .nan → val16 (encodeHalf x) = .nan) ∧
  (∀ x y : Word, notAbove (val32 x) (val32 y) → notAbove (val16 (encodeHalf x)) (val16 (encodeHalf y))) ∧
  (∀ h : Half, val16 h ≠ .nan → encodeHalf (decodeHalf h) = h) ∧
  (∀ h : Half, val16 h = .nan → encodeHalf (decodeHalf h) = h ||| 0x0200)

/-- R160: `decode` is exact: the binary32 value of the result is the binary16 value of the operand; a NaN gives the quiet
NaN of the same sign that carries the fraction in bits 22:13. -/
def Obligations.DecodeIsExact : Prop :=
  ∀ h : Half,
    (∀ a u, val16 h = .fin a u → val32 (decodeHalf h) = .fin a (u * 2 ^ 125)) ∧
    (∀ a, val16 h = .inf a → decodeHalf h = BitVec.ofBool a ++ (0x7F800000 : BitVec 31)) ∧
    (val16 h = .nan → decodeHalf h =
      BitVec.ofBool h.msb ++ (0xFF : BitVec 8) ++ ((h.extractLsb' 0 10 ||| 0x200) ++ (0 : BitVec 13)))

/-- R162: for every binary32 pattern whose value is a binary16 value, `decode(encode(x)) = x`; for every other non-NaN one,
the result is the binary16 value nearest to it, the infinity of its sign on overflow. -/
def Obligations.CodecRoundTrip : Prop :=
  (∀ (x : Word) (h : Half), sameValue (val32 x) (val16 h) → decodeHalf (encodeHalf x) = x) ∧
  (∀ (x : Word) (a : Bool) (u : Nat), val32 x = .fin a u → ∃ m, nearestMag 10 31 u (2 ^ 125) m ∧
    val32 (decodeHalf (encodeHalf x)) = if m = 0x7C00 then .inf a else .fin a (unitsOfMag 10 m * 2 ^ 125))

/-- R163: NaNs and infinities through the codec. -/
def Obligations.NaNAndInfinityThroughTheCodec : Prop :=
  ∀ x : Word,
    (val32 x = .nan → decodeHalf (encodeHalf x) =
      BitVec.ofBool x.msb ++ (0xFF : BitVec 8) ++ (1 : BitVec 1) ++ x.extractLsb' 13 9 ++ (0 : BitVec 13)) ∧
    (∀ a, val32 x = .inf a → decodeHalf (encodeHalf x) = x) ∧
    (∀ h : Half, val16 h = .nan → val32 (decodeHalf h) = .nan) ∧
    (∀ h a, val16 h = .inf a → val32 (decodeHalf h) = .inf a)

/-! ## The PRNG and the sampler -/

/-- R175: the default `PRNG_STEP`, every right-hand side on the old words, with R175's example. -/
def Obligations.StandardPrngStep : Prop :=
  (∀ a b c d : Word,
    let t := a + b + (d + 1)
    prngNext standardPrng ⟨a, b, c, d⟩ =
      ⟨b ^^^ (b >>> 9), c + (c <<< 3), ((c <<< 21) ||| (c >>> 11)) + t, d + 1⟩ ∧
    prngOut standardPrng ⟨a, b, c, d⟩ = t) ∧
  prngNext standardPrng ⟨0x0001E249, 0, 0, 0⟩ = ⟨0x00000000, 0x00000000, 0x0001E24A, 0x00000001⟩ ∧
  prngOut standardPrng ⟨0x0001E249, 0, 0, 0⟩ = 0x0001E24A

/-- R171, R172: `SEED` loads the PRNG file from the seed registers in order; twice is the same as once. -/
def Obligations.SeedLoadsThePrngFile : Prop :=
  soleWord .seed 0x00000020 ∧
  (∀ s : State, exec .seed s =
    .next { s with prng := { a := s.seed0, b := s.seed1, c := s.seed2, d := s.seed3 } }) ∧
  ∀ s t : State, exec .seed s = .next t → exec .seed t = .next t

/-- R173, R176, R139: `NEXT` makes one draw of the hardware's `PRNG_STEP`, whichever instance that is, and leaves the
uniform `t / 2^32`, exact, in `RES`; it is zero only for `t = 0`, and never 1. -/
def Obligations.NextDrawsOneUniform : Prop :=
  soleWord .next 0x00000021 ∧
  (∀ s : State, ∃ t, exec .next s = .next t ∧
    t = { s with prng := prngNext s.hw.prngStep s.prng, res := unit (prngOut s.hw.prngStep s.prng) } ∧
    val64 t.res = .fin false ((prngOut s.hw.prngStep s.prng).toNat * 2 ^ 1042) ∧
    (t.res = 0 ↔ prngOut s.hw.prngStep s.prng = 0) ∧ t.res.toNat ≤ 0x3FEFFFFFFFE00000) ∧
  unit 0xFFFFFFFF = 0x3FEFFFFFFFE00000

/-- R185, R186, R187, R189: `FILLN` reseeds and makes exactly `2E` draws; element `k` is made from draws `2k` and `2k + 1`
by the nest of R186 (`0xC000000000000000` is -2, `0x401921FB54442D18` is `TWO_PI64`), for every instance of `PRNG_STEP`,
`LN64` and `COS64`; slot 1 and everything else is left. -/
def Obligations.FillnFillsSlotZeroInOrder : Prop :=
  soleWord .filln 0x00000030 ∧
  ∀ s : State, s.MemoryOk →
    let e := s.latC.toNat * s.latH.toNat * s.latW.toNat
    let seed : PrngWords := { a := s.seed0, b := s.seed1, c := s.seed2, d := s.seed3 }
    (s.hw.eMax < e → exec .filln s =
      .next { s with fault := .shapeMismatch, fcmd := 0x00000030, ivalid := false, iter := 0 }) ∧
    (e ≤ s.hw.eMax → ∃ t, exec .filln s = .next t ∧
      t = { s with prng := prngAfter s.hw.prngStep seed (2 * e), lat := t.lat } ∧
      (∀ k, k < e →
        let u1 := drawNumber s.hw.prngStep seed (2 * k)
        let u2 := drawNumber s.hw.prngStep seed (2 * k + 1)
        t.half .lat k = d2h (fmul64 (fsqrt64 (fmul64 0xC000000000000000 (ln64 s.hw.reals u1)))
          (cos64 s.hw.reals (fmul64 0x401921FB54442D18 u2)))) ∧
      ∀ a, outsideHalves 0 e a → t.lat.byte a = s.lat.byte a)

/-- R186, R188: the zero draw. With `u1 = 0` the radius is infinite, and the sample (the nest of R186) is the infinity of
the cosine's sign, or the NaN where the cosine is zero; nothing is clamped. A zero `t2` is harmless: the cosine is 1. -/
def Obligations.ZeroDrawGivesAnInfinity : Prop :=
  ∀ (f : RealFns) (u2 : Dword),
    let c := cos64 f (fmul64 0x401921FB54442D18 u2)
    let sample := d2h (fmul64 (fsqrt64 (fmul64 0xC000000000000000 (ln64 f (unit 0)))) c)
    (∀ a n, val64 c = .fin a n → n ≠ 0 → sample = if a then 0xFC00 else 0x7C00) ∧
    (∀ a, val64 c = .fin a 0 → sample = 0x7E00) ∧
    cos64 f (fmul64 0x401921FB54442D18 (unit 0)) = 0x3FF0000000000000

/-! ## The schedule -/

/-- R204, R202: `SIGMA i`. -/
def Obligations.SigmaReadsTheSchedule : Prop :=
  (∀ v : Word, opField v = 0x40 → (zeroField v ≠ 0 ∨ tagField v ≠ 0) → illegalWord v) ∧
  ∀ (s : State) (i : Nat),
    let n := min s.niter.toNat s.hw.nMax
    (n < i → exec (.sigma i) s =
      .next { s with fault := .scheduleExhausted, fcmd := encode (.sigma i), ivalid := false, iter := 0 }) ∧
    (i ≤ n → exec (.sigma i) s = .next { s with res := s.dword .sigma i })

/-- R205, R203: `DELTA i` is one binary64 subtraction; equal finite neighbours give `+0`. -/
def Obligations.DeltaSubtractsNeighbours : Prop :=
  (∀ v : Word, opField v = 0x41 → (zeroField v ≠ 0 ∨ tagField v ≠ 0) → illegalWord v) ∧
  ∀ (s : State) (i : Nat),
    let n := min s.niter.toNat s.hw.nMax
    (n ≤ i → exec (.delta i) s =
      .next { s with fault := .scheduleExhausted, fcmd := encode (.delta i), ivalid := false, iter := 0 }) ∧
    (i < n → exec (.delta i) s = .next { s with res := fsub64 (s.dword .sigma (i + 1)) (s.dword .sigma i) }) ∧
    (i < n → ∀ a u, s.dword .sigma (i + 1) = s.dword .sigma i → val64 (s.dword .sigma i) = .fin a u →
      exec (.delta i) s = .next { s with res := 0 })

/-- `TSTEP i` (44_schedule.md): the rounded timestep, sign-extended, in `RES`. Where R124 leaves the integer unspecified the
command completes all the same: what it leaves in `RES` is the model's free value (log entry 6), whatever that is. -/
def Obligations.TstepRoundsTheTimestep : Prop :=
  (∀ v : Word, opField v = 0x42 → (zeroField v ≠ 0 ∨ tagField v ≠ 0) → illegalWord v) ∧
  ∀ (s : State) (i : Nat),
    let n := min s.niter.toNat s.hw.nMax
    (n ≤ i → exec (.tstep i) s =
      .next { s with fault := .scheduleExhausted, fcmd := encode (.tstep i), ivalid := false, iter := 0 }) ∧
    (i < n → ∀ r, roundAway (s.dword .ts i) = some r → exec (.tstep i) s = .next { s with res := BitVec.ofInt 64 r }) ∧
    (i < n → roundAway (s.dword .ts i) = none → ∃ t, exec (.tstep i) s = .next t ∧
      t = { s with res := t.res, freeCount := t.freeCount })

/-- R124: `round_away` of a finite value is the nearest integer, ties away from zero, with the value's sign, wherever that
integer fits 64 bits; it is unspecified exactly for NaNs, infinities and integers that do not fit. -/
def Obligations.RoundAwayIsNearestAwayFromZero : Prop :=
  ∀ d : Dword,
    (∀ a u, val64 d = .fin a u →
      let mag : Nat := (2 * u + 2 ^ 1074) / 2 ^ 1075
      let r : Int := if a then -(mag : Int) else (mag : Int)
      roundAway d = if -(2 ^ 63) ≤ r ∧ r ≤ 2 ^ 63 - 1 then some r else none) ∧
    (∀ a, val64 d = .inf a → roundAway d = none) ∧ (val64 d = .nan → roundAway d = none)

/-! ## The latent commands -/

/-- R217: `DUP` copies the patterns of slot 0 onto slot 1 and changes nothing else. -/
def Obligations.DupCopiesSlotZero : Prop :=
  soleWord .dup 0x00000031 ∧
  ∀ s : State, s.MemoryOk →
    let e := s.latC.toNat * s.latH.toNat * s.latW.toNat
    (s.hw.eMax < e → exec .dup s =
      .next { s with fault := .shapeMismatch, fcmd := 0x00000031, ivalid := false, iter := 0 }) ∧
    (e ≤ s.hw.eMax → ∃ t, exec .dup s = .next t ∧ t = { s with lat := t.lat } ∧
      (∀ k, k < e → t.half .lat (e + k) = s.half .lat k) ∧
      ∀ a, outsideHalves e e a → t.lat.byte a = s.lat.byte a)

/-- R218: `PRESC` multiplies slot 0 by `sigma(0)` and starts the iteration count. -/
def Obligations.PrescScalesAndStartsTheRun : Prop :=
  soleWord .presc 0x00000032 ∧
  ∀ s : State, s.MemoryOk →
    let e := s.latC.toNat * s.latH.toNat * s.latW.toNat
    (s.hw.eMax < e → exec .presc s =
      .next { s with fault := .shapeMismatch, fcmd := 0x00000032, ivalid := false, iter := 0 }) ∧
    (e ≤ s.hw.eMax → ∃ t, exec .presc s = .next t ∧ t = { s with lat := t.lat, ivalid := true, iter := 0 } ∧
      (t.term = true ↔ min s.niter.toNat s.hw.nMax = 0) ∧
      (∀ k, k < e → t.half .lat k = d2h (fmul64 (h2d (s.half .lat k)) (s.dword .sigma 0))) ∧
      ∀ a, outsideHalves 0 e a → t.lat.byte a = s.lat.byte a)

/-- R219: `SVIEW` writes one scaled value into both slots of `SCR`, the factor computed once; `LAT` is not written. -/
def Obligations.SviewBuildsTheScaledView : Prop :=
  soleWord .sview 0x00000033 ∧
  ∀ s : State, s.MemoryOk →
    let e := s.latC.toNat * s.latH.toNat * s.latW.toNat
    let n := min s.niter.toNat s.hw.nMax
    let sg := s.dword .sigma s.iter.toNat
    let inv := fdiv64 0x3FF0000000000000 (fsqrt64 (fadd64 (fmul64 sg sg) 0x3FF0000000000000))
    (s.hw.eMax < e → exec .sview s =
      .next { s with fault := .shapeMismatch, fcmd := 0x00000033, ivalid := false, iter := 0 }) ∧
    (e ≤ s.hw.eMax → (s.ivalid = false ∨ n < s.iter.toNat) → exec .sview s =
      .next { s with fault := .scheduleExhausted, fcmd := 0x00000033, ivalid := false, iter := 0 }) ∧
    (e ≤ s.hw.eMax → s.ivalid = true → s.iter.toNat ≤ n → ∃ t, exec .sview s = .next t ∧ t = { s with scr := t.scr } ∧
      (∀ k, k < e → t.half .scr k = d2h (fmul64 (h2d (s.half .lat k)) inv) ∧ t.half .scr (e + k) = t.half .scr k) ∧
      ∀ a, outsideHalves 0 (2 * e) a → t.scr.byte a = s.scr.byte a)

/-- R222, R220, R221: `STEPC`, one guided Euler step of the combined layout, each operation rounded once; its checks in
their order. -/
def Obligations.StepcTakesOneGuidedStep : Prop :=
  soleWord .stepc 0x00000034 ∧
  ∀ s : State, s.MemoryOk →
    let e := s.latC.toNat * s.latH.toNat * s.latW.toNat
    let n := min s.niter.toNat s.hw.nMax
    let shapeOk := (s.predDesc.dim0, s.predDesc.dim1, s.predDesc.dim2, s.predDesc.dim3) = (2, s.latC, s.latH, s.latW) ∧
      e ≤ s.hw.eMax
    let delta := fsub64 (s.dword .sigma (s.iter.toNat + 1)) (s.dword .sigma s.iter.toNat)
    let nw := fsub64 0x3FF0000000000000 s.gscale
    (s.predDesc.dt ≠ 0x1 → exec .stepc s =
      .next { s with fault := .unsupportedDType, fcmd := 0x00000034, ivalid := false, iter := 0 }) ∧
    (s.predDesc.dt = 0x1 → ¬ shapeOk → exec .stepc s =
      .next { s with fault := .shapeMismatch, fcmd := 0x00000034, ivalid := false, iter := 0 }) ∧
    (s.predDesc.dt = 0x1 → shapeOk → (s.ivalid = false ∨ n ≤ s.iter.toNat) → exec .stepc s =
      .next { s with fault := .scheduleExhausted, fcmd := 0x00000034, ivalid := false, iter := 0 }) ∧
    (s.predDesc.dt = 0x1 → shapeOk → s.ivalid = true → s.iter.toNat < n → ∃ t, exec .stepc s = .next t ∧
      t = { s with lat := t.lat, iter := t.iter } ∧ t.iter.toNat = s.iter.toNat + 1 ∧
      (t.term = true ↔ t.iter.toNat = n) ∧
      (∀ k, k < e → t.half .lat k = d2h (fadd64 (h2d (s.half .lat k))
        (fmul64 (fadd64 (fmul64 (h2d (s.half .pred k)) s.gscale) (fmul64 (h2d (s.half .pred (e + k))) nw)) delta))) ∧
      ∀ a, outsideHalves 0 e a → t.lat.byte a = s.lat.byte a)

/-- R223: `STEPS`, the same of the split layout. -/
def Obligations.StepsTakesOneGuidedStep : Prop :=
  soleWord .steps 0x00000035 ∧
  ∀ s : State, s.MemoryOk →
    let e := s.latC.toNat * s.latH.toNat * s.latW.toNat
    let n := min s.niter.toNat s.hw.nMax
    let dims := fun (d : TensorDesc) => (d.dim0, d.dim1, d.dim2, d.dim3) = (1, s.latC, s.latH, s.latW)
    let tagsOk := s.predpDesc.dt = 0x1 ∧ s.prednDesc.dt = 0x1
    let shapeOk := dims s.predpDesc ∧ dims s.prednDesc ∧ e ≤ s.hw.eMax
    let delta := fsub64 (s.dword .sigma (s.iter.toNat + 1)) (s.dword .sigma s.iter.toNat)
    let nw := fsub64 0x3FF0000000000000 s.gscale
    (¬ tagsOk → exec .steps s =
      .next { s with fault := .unsupportedDType, fcmd := 0x00000035, ivalid := false, iter := 0 }) ∧
    (tagsOk → ¬ shapeOk → exec .steps s =
      .next { s with fault := .shapeMismatch, fcmd := 0x00000035, ivalid := false, iter := 0 }) ∧
    (tagsOk → shapeOk → (s.ivalid = false ∨ n ≤ s.iter.toNat) → exec .steps s =
      .next { s with fault := .scheduleExhausted, fcmd := 0x00000035, ivalid := false, iter := 0 }) ∧
    (tagsOk → shapeOk → s.ivalid = true → s.iter.toNat < n → ∃ t, exec .steps s = .next t ∧
      t = { s with lat := t.lat, iter := t.iter } ∧ t.iter.toNat = s.iter.toNat + 1 ∧
      (t.term = true ↔ t.iter.toNat = n) ∧
      (∀ k, k < e → t.half .lat k = d2h (fadd64 (h2d (s.half .lat k))
        (fmul64 (fadd64 (fmul64 (h2d (s.half .predp k)) s.gscale) (fmul64 (h2d (s.half .predn k)) nw)) delta))) ∧
      ∀ a, outsideHalves 0 e a → t.lat.byte a = s.lat.byte a)

/-- R229: `VSCALE` divides slot 0 by `VAESCALE` into `OUT`; `LAT` is not written. -/
def Obligations.VscaleDividesIntoOut : Prop :=
  soleWord .vscale 0x00000036 ∧
  ∀ s : State, s.MemoryOk →
    let e := s.latC.toNat * s.latH.toNat * s.latW.toNat
    (s.hw.eMax < e → exec .vscale s =
      .next { s with fault := .shapeMismatch, fcmd := 0x00000036, ivalid := false, iter := 0 }) ∧
    (e ≤ s.hw.eMax → ∃ t, exec .vscale s = .next t ∧ t = { s with out := t.out } ∧
      (∀ k, k < e → t.half .out k = d2h (fdiv64 (h2d (s.half .lat k)) s.vaescale)) ∧
      ∀ a, outsideHalves 0 e a → t.out.byte a = s.out.byte a)

/-- R224: given the same predictions in both layouts and descriptors that pass their checks, `STEPC` and `STEPS` leave one
and the same state. -/
def Obligations.SplitStepEqualsCombinedStep : Prop :=
  ∀ s : State,
    let e := s.latC.toNat * s.latH.toNat * s.latW.toNat
    s.predDesc = { dt := 0x1, dim0 := 2, dim1 := s.latC, dim2 := s.latH, dim3 := s.latW } →
    s.predpDesc = { dt := 0x1, dim0 := 1, dim1 := s.latC, dim2 := s.latH, dim3 := s.latW } →
    s.prednDesc = { dt := 0x1, dim0 := 1, dim1 := s.latC, dim2 := s.latH, dim3 := s.latW } →
    e ≤ s.hw.eMax → s.ivalid = true → s.iter.toNat < min s.niter.toNat s.hw.nMax →
    (∀ k, k < e → s.half .predp k = s.half .pred k ∧ s.half .predn k = s.half .pred (e + k)) →
    ∃ t, exec .stepc s = .next t ∧ exec .steps s = .next t

/-- R225: with `GSCALE = 1.0` the negative weight is `+0`, and for a finite negative prediction the step is the
unconditioned Euler step (for a zero positive prediction up to the sign of that zero); for an infinite or NaN negative
prediction the element becomes `0x7E00`. -/
def Obligations.UnguidedStepIsPlainEuler : Prop :=
  fsub64 ONE64 ONE64 = 0 ∧
  ∀ (delta : Dword) (s p n : Half),
    (∀ b v, val16 n = .fin b v → (∀ a, val16 p ≠ .fin a 0) →
      stepElem ONE64 delta s p n = d2h (fadd64 (h2d s) (fmul64 (h2d p) delta))) ∧
    (∀ a b v, val16 n = .fin b v → val16 p = .fin a 0 →
      fadd64 (fmul64 (h2d p) ONE64) (fmul64 (h2d n) 0) = (if a && b then h2d p else 0) ∧
      stepElem ONE64 delta s p n = d2h (fadd64 (h2d s) (fmul64 (if a && b then h2d p else 0) delta))) ∧
    ((val16 n = .nan ∨ ∃ b, val16 n = .inf b) → stepElem ONE64 delta s p n = 0x7E00)

/-- R230: slot 1 of `LAT` is read by no command: two states that differ only in bytes of `LAT` outside slot 0 are taken by
every command to states that differ only there; and it is written by no command but `DUP`. -/
def Obligations.LatSlotOneIsReadByNoCommand : Prop :=
  (∀ (i : Instr) (s t t' : State) (other : Memory), s.MemoryOk → other.wf →
    (∀ a, a < elemAddr 2 (s.latC.toNat * s.latH.toNat * s.latW.toNat) → other.byte a = s.lat.byte a) →
    exec i s = .next t → exec i { s with lat := other } = .next t' →
    t' = { t with lat := t'.lat } ∧
    ∀ a, a < elemAddr 2 (s.latC.toNat * s.latH.toNat * s.latW.toNat) → t'.lat.byte a = t.lat.byte a) ∧
  (∀ (i : Instr) (s t : State), s.MemoryOk → i ≠ .dup → exec i s = .next t →
    ∀ a, elemAddr 2 (s.latC.toNat * s.latH.toNat * s.latW.toNat) ≤ a → t.lat.byte a = s.lat.byte a)

/-! ## Arithmetic -/

/-- R125's general law, of the model's one rounding function, for every format: the result is a pattern of the format,
none is nearer to the exact magnitude, a tie goes to the even fraction, and the infinity results exactly from the midpoint
above the largest finite value on. -/
def Obligations.RoundingIsNearestEven : Prop :=
  ∀ fbits top num den : Nat, 1 ≤ fbits → 3 ≤ top → 0 < den →
    nearestMag fbits top num den (roundUnits fbits (top * 2 ^ fbits) num den)

/-- R126, R127, R128: the sum, the difference, the product and the quotient are the exact result rounded once to nearest,
ties to even, with their signs and special cases. -/
def Obligations.AddMulDivRoundTheExactResultOnce : Prop :=
  ∀ (x y : Dword),
    (val64 x = .nan ∨ val64 y = .nan →
      fadd64 x y = canonNaN64 ∧ fsub64 x y = canonNaN64 ∧ fmul64 x y = canonNaN64 ∧ fdiv64 x y = canonNaN64) ∧
    (val64 y ≠ .nan → fsub64 x y = fadd64 x (y ^^^ 0x8000000000000000)) ∧
    (∀ a b, val64 x = .inf a → val64 y = .inf b →
      fadd64 x y = (if a = b then inf64 a else canonNaN64) ∧ fmul64 x y = inf64 (a ^^ b) ∧ fdiv64 x y = canonNaN64) ∧
    (∀ a b n, val64 x = .inf a → val64 y = .fin b n →
      fadd64 x y = inf64 a ∧ fmul64 x y = (if n = 0 then canonNaN64 else inf64 (a ^^ b)) ∧
      fdiv64 x y = inf64 (a ^^ b)) ∧
    (∀ a m b, val64 x = .fin a m → val64 y = .inf b →
      fadd64 x y = inf64 b ∧ fmul64 x y = (if m = 0 then canonNaN64 else inf64 (a ^^ b)) ∧
      fdiv64 x y = zero64 (a ^^ b)) ∧
    (∀ a b m n, val64 x = .fin a m → val64 y = .fin b n →
      (∃ r, fadd64 x y =
          pack64 (if signedUnits a m + signedUnits b n = 0 then a && b else decide (signedUnits a m + signedUnits b n < 0)) r ∧
        nearestMag 52 2047 (signedUnits a m + signedUnits b n).natAbs 1 r) ∧
      (∃ r, fmul64 x y = pack64 (a ^^ b) r ∧ nearestMag 52 2047 (m * n) (2 ^ 1074) r) ∧
      (n = 0 → fdiv64 x y = if m = 0 then canonNaN64 else inf64 (a ^^ b)) ∧
      (n ≠ 0 → ∃ r, fdiv64 x y = pack64 (a ^^ b) r ∧ nearestMag 52 2047 (m * 2 ^ 1074) n r))

/-- R130: a NaN that an arithmetic operation returns is the canonical one. -/
def Obligations.NaNResultsAreCanonical : Prop :=
  (∀ x y : Dword, (val64 (fadd64 x y) = .nan → fadd64 x y = 0x7FF8000000000000) ∧
    (val64 (fsub64 x y) = .nan → fsub64 x y = 0x7FF8000000000000) ∧
    (val64 (fmul64 x y) = .nan → fmul64 x y = 0x7FF8000000000000) ∧
    (val64 (fdiv64 x y) = .nan → fdiv64 x y = 0x7FF8000000000000)) ∧
  (∀ x : Dword, (val64 (fsqrt64 x) = .nan → fsqrt64 x = 0x7FF8000000000000) ∧
    (val32 (narrow x) = .nan → narrow x = 0x7FC00000)) ∧
  (∀ (f : RealFns) (x : Dword), (val64 (ln64 f x) = .nan → ln64 f x = 0x7FF8000000000000) ∧
    (val64 (cos64 f x) = .nan → cos64 f x = 0x7FF8000000000000))

/-- R131: signed zeros. -/
def Obligations.SignedZeros : Prop :=
  (∀ (x y : Dword) (a b : Bool) (u : Nat), val64 x = .fin a 0 → val64 y = .fin b u →
    fmul64 x y = zero64 (a ^^ b) ∧ (u ≠ 0 → fdiv64 x y = zero64 (a ^^ b))) ∧
  (∀ a : Bool, fsqrt64 (zero64 a) = zero64 a ∧ narrow (zero64 a) = BitVec.ofBool a ++ (0 : BitVec 31) ∧
    widen (BitVec.ofBool a ++ (0 : BitVec 31)) = zero64 a ∧
    encodeHalf (BitVec.ofBool a ++ (0 : BitVec 31)) = BitVec.ofBool a ++ (0 : BitVec 15) ∧
    decodeHalf (BitVec.ofBool a ++ (0 : BitVec 15)) = BitVec.ofBool a ++ (0 : BitVec 31) ∧
    fadd64 (zero64 a) (zero64 a) = zero64 a ∧ fadd64 (zero64 a) (zero64 (!a)) = zero64 false) ∧
  (∀ (x y : Dword) (a : Bool) (u : Nat), val64 x = .fin a u → val64 y = .fin (!a) u → fadd64 x y = zero64 false)

/-- R129: `fsqrt64` is correctly rounded: for a positive finite operand no neighbour of the result is nearer to the root
(the midpoints with both neighbours enclose it), and the special cases. -/
def Obligations.SqrtIsCorrectlyRounded : Prop :=
  (∀ (x : Dword) (u : Nat), val64 x = .fin false u → u ≠ 0 →
    ∃ m, fsqrt64 x = pack64 false m ∧ 0 < m ∧ m < infMag64 ∧
      (unitsOfMag 52 m + unitsOfMag 52 (m - 1)) ^ 2 ≤ 4 * (u * 2 ^ 1074) ∧
      4 * (u * 2 ^ 1074) ≤ (unitsOfMag 52 m + unitsOfMag 52 (m + 1)) ^ 2) ∧
  fsqrt64 (zero64 false) = zero64 false ∧ fsqrt64 (zero64 true) = zero64 true ∧
  fsqrt64 (inf64 false) = inf64 false ∧ fsqrt64 (inf64 true) = canonNaN64 ∧
  (∀ x : Dword, val64 x = .nan → fsqrt64 x = canonNaN64) ∧
  (∀ (x : Dword) (u : Nat), val64 x = .fin true u → u ≠ 0 → fsqrt64 x = canonNaN64)

/-- R133: `narrow` is the nearest binary32, ties to even, with its two ends, its special cases, and its integer terms for
a normal operand of unbiased exponent -126 to 127 (one binary32 unit is `2^925` binary64 units). -/
def Obligations.NarrowIsTheNearestBinary32 : Prop :=
  (∀ (d : Dword) (a : Bool) (u : Nat), val64 d = .fin a u →
    (∃ m, narrow d = BitVec.ofBool a ++ BitVec.ofNat 31 m ∧ nearestMag 23 255 u (2 ^ 925) m) ∧
    ((2 ^ 128 - 2 ^ 103) * 2 ^ 1074 ≤ u → narrow d = BitVec.ofBool a ++ (0x7F800000 : BitVec 31)) ∧
    (u ≤ 2 ^ 924 → narrow d = BitVec.ofBool a ++ (0 : BitVec 31)) ∧
    (let e := (d.extractLsb' 52 11).toNat
     let f := (d.extractLsb' 0 52).toNat
     let keep := f / 2 ^ 29
     let rem := f % 2 ^ 29
     let mag := (e + 127 - 1023) * 2 ^ 23 + keep
     1023 ≤ e + 126 → e ≤ 1023 + 127 →
      narrow d = BitVec.ofBool a ++
        BitVec.ofNat 31 (if 0x10000000 < rem ∨ (rem = 0x10000000 ∧ keep % 2 = 1) then mag + 1 else mag))) ∧
  (∀ (d : Dword) (a : Bool), val64 d = .inf a → narrow d = BitVec.ofBool a ++ (0x7F800000 : BitVec 31)) ∧
  (∀ d : Dword, val64 d = .nan → narrow d = 0x7FC00000)

/-- R134: `h2d` is exact, `d2h` undoes it, the two roundings of `d2h` are not fused (the rule's example), and the canonical
NaN goes to `0x7E00`. -/
def Obligations.ComposedConversions : Prop :=
  (∀ (h : Half) (a : Bool) (u : Nat), val16 h = .fin a u → val64 (h2d h) = .fin a (u * 2 ^ 1050)) ∧
  (∀ (h : Half) (a : Bool), val16 h = .inf a → h2d h = inf64 a) ∧
  (∀ h : Half, val16 h = .nan → h2d h =
    BitVec.ofBool h.msb ++ (0x7FF : BitVec 11) ++ (h.extractLsb' 0 10 ||| 0x200) ++ (0 : BitVec 42)) ∧
  (∀ h : Half, val16 h ≠ .nan → d2h (h2d h) = h) ∧
  (∀ d : Dword, d2h d = encodeHalf (narrow d)) ∧
  narrow 0x3FF0020000001000 = 0x3F801000 ∧ d2h 0x3FF0020000001000 = 0x3C00 ∧ d2h canonNaN64 = 0x7E00

/-- What R135 and R136 demand of every instance of `LN64` and `COS64`, the default and any other. `LN64`: its values at
zeros, 1, infinities, NaNs and negative operands, and between 0 and 1 a finite, negative, nonzero result. `COS64`: 1 at the
zeros, the NaN at infinities and NaNs, and a result in `[-1, 1]` at every finite operand. -/
def Obligations.LogarithmAndCosineProperties : Prop :=
  ∀ f : RealFns,
    ln64 f (zero64 false) = 0xFFF0000000000000 ∧ ln64 f (zero64 true) = 0xFFF0000000000000 ∧
    ln64 f ONE64 = zero64 false ∧ ln64 f (inf64 false) = inf64 false ∧ ln64 f (inf64 true) = canonNaN64 ∧
    cos64 f (zero64 false) = ONE64 ∧ cos64 f (zero64 true) = ONE64 ∧
    (∀ d : Dword, val64 d = .nan → ln64 f d = canonNaN64 ∧ cos64 f d = canonNaN64) ∧
    (∀ (d : Dword) (a : Bool), val64 d = .inf a → cos64 f d = canonNaN64) ∧
    (∀ (d : Dword) (u : Nat), val64 d = .fin true u → u ≠ 0 → ln64 f d = canonNaN64) ∧
    (∀ (d : Dword) (u : Nat), val64 d = .fin false u → 0 < u → u < 2 ^ 1074 →
      ∃ v, v ≠ 0 ∧ val64 (ln64 f d) = .fin true v) ∧
    (∀ (d : Dword) (a : Bool) (u : Nat), val64 d = .fin a u → ∃ b v, val64 (cos64 f d) = .fin b v ∧ v ≤ 2 ^ 1074)

/-! ## Reset, the host, the invariant -/

/-- The reset values that the spec states (10_state.md, the reset table): the values it leaves unspecified are the model's
choice (log entries 1 and 2) and are not stated here. -/
def Obligations.ResetValues : Prop :=
  State.reset.fault = .noFault ∧ State.reset.ivalid = false ∧ State.reset.iter = 0 ∧ State.reset.term = false ∧
  State.reset.statusWord = 0x00000000 ∧ State.reset.fcmd = 0x00000000 ∧ State.reset.niter = 25 ∧
  State.reset.gscale = 0x401E000000000000 ∧ State.reset.vaescale = 0x3FC750B0F27BB2FF ∧
  State.reset.latC = 0 ∧ State.reset.latH = 0 ∧ State.reset.latW = 0 ∧
  State.reset.predDesc = ⟨0, 0, 0, 0, 0⟩ ∧ State.reset.predpDesc = ⟨0, 0, 0, 0, 0⟩ ∧
  State.reset.prednDesc = ⟨0, 0, 0, 0, 0⟩

/-- R290, R291: a reset can come in any state; after it the defined values of the reset table hold, the parameters of the
hardware are what they were, and the next command runs normally. Two clauses are the model's own: that the inputs still to
come are kept (`t.inputs = rest`) is its DESIGN CHOICE of log entry 8, and that the block idles without an input is its
reading of "Nothing runs by itself" (log entry 7). -/
def Obligations.ResetEvent : Prop :=
  (∀ (s : State) (rest : List Input), s.inputs = .reset :: rest → ∃ t, step s = .next t ∧
    t.fault = .noFault ∧ t.ivalid = false ∧ t.iter = 0 ∧ t.fcmd = 0 ∧ t.niter = 25 ∧ t.gscale = 0x401E000000000000 ∧
    t.vaescale = 0x3FC750B0F27BB2FF ∧ t.latC = 0 ∧ t.latH = 0 ∧ t.latW = 0 ∧ t.predDesc = ⟨0, 0, 0, 0, 0⟩ ∧
    t.predpDesc = ⟨0, 0, 0, 0, 0⟩ ∧ t.prednDesc = ⟨0, 0, 0, 0, 0⟩ ∧ t.hw = s.hw ∧ t.inputs = rest ∧
    ∀ w i, decode w = .ok i → step { t with inputs := [commandInput w] } = exec i { t with inputs := [], reply := none }) ∧
  step State.reset = .next State.reset

/-- The invariant holds after reset. -/
def Obligations.ResetMeetsTheInvariant : Prop := State.reset.Inv

/-- Every step keeps the invariant: the memories stay canonical and within their sizes, an undefined iteration index is
0, a faulted block has no run, an unfaulted block records no word; and no step changes the parameters of the hardware. -/
def Obligations.StepKeepsTheInvariant : Prop := ∀ s t : State, s.Inv → step s = .next t → t.Inv ∧ t.hw = s.hw

/-- The register map row by row (R34, R60, R68; 10_state.md's last paragraph of the map). A host write of a value of the
register's width to an RW number stores every bit in that register's own field, and the next host read of the number returns
it; a host read of an R or RW number returns that register's field; neither changes anything else. (`reply` is the model's
own field, log entry 7: a write returns nothing. The read of `STATUS` is stated with its fields.) -/
def Obligations.RegisterReadsBackWhatWasWritten : Prop :=
  ∀ (s : State) (no : Nat) (rest : List Input),
    (∀ width v t, (no, width, t) ∈ registerWrites { s with inputs := rest, reply := none } v → v.toNat < 2 ^ width →
      s.inputs = .writeReg no v :: rest →
      step s = .next t ∧
        ∀ rest', rest = .readReg no :: rest' → step t = .next { t with inputs := rest', reply := some v }) ∧
    (∀ value, (no, value) ∈ registerReads s → s.inputs = .readReg no :: rest →
      step s = .next { s with inputs := rest, reply := some value })

/-- The eight memories (R60, R62, R64, R68, R71; an element by its bytes, R65). A host read of an element of any of them,
`SCR` and `OUT` included, returns the element and changes nothing else; a host write of an element of the six that the host
may write changes that element alone, and the next host read of it returns the value. -/
def Obligations.MemoryReadsBackWhatWasWritten : Prop :=
  ∀ (s : State) (m : MemName) (i : Nat) (rest : List Input), i < elementCount s.hw m →
    (s.inputs = .readBuf m i :: rest →
      step s = .next { s with inputs := rest, reply := some (elementOf s m i) }) ∧
    (∀ v : Dword, s.MemoryOk →
      (match m with
        | .buf .scr | .buf .out => False
        | .buf .lat | .buf .pred | .buf .predp | .buf .predn => v.toNat < 2 ^ 16
        | .sched .sigma | .sched .ts => True) →
      s.inputs = .writeBuf m i v :: rest →
      ∃ t, step s = .next t ∧ sameButMemory m { s with inputs := rest, reply := none } t ∧ elementOf t m i = v ∧
        (∀ m' j, (m', j) ≠ (m, i) → elementOf t m' j = elementOf s m' j) ∧
        ∀ rest', rest = .readBuf m i :: rest' → step t = .next { t with inputs := rest', reply := some v })

/-- R77: the accesses that have no meaning are refused: of the numbers R34 leaves out, against the host's rights, and at or
beyond a memory's size (R62, R64). -/
def Obligations.AccessesWithoutMeaningAreRefused : Prop :=
  ∀ (s : State) (rest : List Input),
    (∀ no, no ∈ [0x13, 0x14, 0x15, 0x16, 0x17, 0x1D, 0x1E, 0x1F, 0x25, 0x26, 0x27] ∨ 0x2D ≤ no →
      (∀ v, s.inputs = .writeReg no v :: rest → ∃ r, step s = .refused r) ∧
      (s.inputs = .readReg no :: rest → ∃ r, step s = .refused r)) ∧
    (∀ no v, no ∈ [0x01, 0x03, 0x08, 0x09, 0x0A, 0x0B, 0x0F] → s.inputs = .writeReg no v :: rest →
      ∃ r, step s = .refused r) ∧
    (s.inputs = .readReg 0x00 :: rest → ∃ r, step s = .refused r) ∧
    (∀ b i v, b = Buf.scr ∨ b = Buf.out → s.inputs = .writeBuf (.buf b) i v :: rest → ∃ r, step s = .refused r) ∧
    (∀ m i v, elementCount s.hw m ≤ i → s.inputs = .writeBuf m i v :: rest → ∃ r, step s = .refused r) ∧
    (∀ m i, elementCount s.hw m ≤ i → s.inputs = .readBuf m i :: rest → ∃ r, step s = .refused r)

/-- R22, R35: the fields of the `STATUS` word, `TERM` derived from `IVALID`, `ITER` and `N`; a read of it changes nothing. -/
def Obligations.StatusWordFields : Prop :=
  ∀ s : State,
    (s.statusWord.extractLsb' 0 4 = match s.fault with
      | .noFault => (0 : BitVec 4)
      | .shapeMismatch => 1
      | .unsupportedDType => 2
      | .scheduleExhausted => 3
      | .illegalCommand => 4) ∧
    (s.statusWord.getLsbD 4 = s.ivalid) ∧
    (s.statusWord.getLsbD 5 = true ↔ s.ivalid = true ∧ min s.niter.toNat s.hw.nMax ≤ s.iter.toNat) ∧
    s.statusWord.extractLsb' 6 10 = 0 ∧ s.statusWord.extractLsb' 16 16 = s.iter ∧
    ∀ rest, s.inputs = .readReg 0x01 :: rest →
      step s = .next { s with inputs := rest, reply := some (s.statusWord.setWidth 64) }
end

