-- ==== Sys2Proof/Laws/Encode.lean ====
section
/-! SUPPORT. The fields of a command word (R90): what packing puts together, taking apart gives back. -/

namespace Sys2Proof

/-- A concatenation as a number. -/
theorem append_toNat {m n : Nat} (x : BitVec m) (y : BitVec n) : (x ++ y).toNat = x.toNat * 2 ^ n + y.toNat := by
  rw [BitVec.toNat_append, ← Nat.shiftLeft_add_eq_or_of_lt y.isLt, Nat.shiftLeft_eq]

/-- A packed word as a number. -/
theorem packWord_toNat (op : BitVec 8) (dt : Tag) (imm : BitVec 16) :
    (packWord op dt imm).toNat = imm.toNat * 65536 + dt.toNat * 256 + op.toNat := by
  simp only [packWord, append_toNat]
  simp
  omega

@[simp] theorem opField_packWord (op : BitVec 8) (dt : Tag) (imm : BitVec 16) : opField (packWord op dt imm) = op := by
  apply BitVec.eq_of_toNat_eq
  simp only [opField, BitVec.extractLsb'_toNat, packWord_toNat, Nat.shiftRight_eq_div_pow]
  have := op.isLt
  omega

@[simp] theorem tagField_packWord (op : BitVec 8) (dt : Tag) (imm : BitVec 16) : tagField (packWord op dt imm) = dt := by
  apply BitVec.eq_of_toNat_eq
  simp only [tagField, BitVec.extractLsb'_toNat, packWord_toNat, Nat.shiftRight_eq_div_pow]
  have := op.isLt
  have := dt.isLt
  omega

@[simp] theorem zeroField_packWord (op : BitVec 8) (dt : Tag) (imm : BitVec 16) : zeroField (packWord op dt imm) = 0 := by
  apply BitVec.eq_of_toNat_eq
  simp only [zeroField, BitVec.extractLsb'_toNat, packWord_toNat, Nat.shiftRight_eq_div_pow]
  have := op.isLt
  have := dt.isLt
  simp
  omega

@[simp] theorem immField_packWord (op : BitVec 8) (dt : Tag) (imm : BitVec 16) : immField (packWord op dt imm) = imm := by
  apply BitVec.eq_of_toNat_eq
  simp only [immField, BitVec.extractLsb'_toNat, packWord_toNat, Nat.shiftRight_eq_div_pow]
  have := op.isLt
  have := dt.isLt
  have := imm.isLt
  omega

/-- A word whose `zero` field is zero is its other three fields packed. -/
theorem packWord_fields (w : Word) (hz : zeroField w = 0) : packWord (opField w) (tagField w) (immField w) = w := by
  apply BitVec.eq_of_toNat_eq
  have h := congrArg BitVec.toNat hz
  simp only [packWord_toNat, opField, tagField, zeroField, immField, BitVec.extractLsb'_toNat,
    Nat.shiftRight_eq_div_pow] at *
  have := w.isLt
  simp at h
  omega

end Sys2Proof
end

