-- ==== Sys2Proof/Laws/State.lean ====
section
/-! SUPPORT. One lemma per field per update of the state: what a named update leaves and what it writes. -/

namespace Sys2Proof.Machine

open Sys2Proof

variable (s : State)

/-! `setRes` -/

@[simp] theorem State.setRes_fault (v : Dword) : (s.setRes v).fault = s.fault := rfl
@[simp] theorem State.setRes_ivalid (v : Dword) : (s.setRes v).ivalid = s.ivalid := rfl
@[simp] theorem State.setRes_iter (v : Dword) : (s.setRes v).iter = s.iter := rfl
@[simp] theorem State.setRes_fcmd (v : Dword) : (s.setRes v).fcmd = s.fcmd := rfl
@[simp] theorem State.setRes_opa (v : Dword) : (s.setRes v).opa = s.opa := rfl
@[simp] theorem State.setRes_res (v : Dword) : (s.setRes v).res = v := rfl
@[simp] theorem State.setRes_seed0 (v : Dword) : (s.setRes v).seed0 = s.seed0 := rfl
@[simp] theorem State.setRes_seed1 (v : Dword) : (s.setRes v).seed1 = s.seed1 := rfl
@[simp] theorem State.setRes_seed2 (v : Dword) : (s.setRes v).seed2 = s.seed2 := rfl
@[simp] theorem State.setRes_seed3 (v : Dword) : (s.setRes v).seed3 = s.seed3 := rfl
@[simp] theorem State.setRes_prng (v : Dword) : (s.setRes v).prng = s.prng := rfl
@[simp] theorem State.setRes_niter (v : Dword) : (s.setRes v).niter = s.niter := rfl
@[simp] theorem State.setRes_gscale (v : Dword) : (s.setRes v).gscale = s.gscale := rfl
@[simp] theorem State.setRes_vaescale (v : Dword) : (s.setRes v).vaescale = s.vaescale := rfl
@[simp] theorem State.setRes_latC (v : Dword) : (s.setRes v).latC = s.latC := rfl
@[simp] theorem State.setRes_latH (v : Dword) : (s.setRes v).latH = s.latH := rfl
@[simp] theorem State.setRes_latW (v : Dword) : (s.setRes v).latW = s.latW := rfl
@[simp] theorem State.setRes_predDesc (v : Dword) : (s.setRes v).predDesc = s.predDesc := rfl
@[simp] theorem State.setRes_predpDesc (v : Dword) : (s.setRes v).predpDesc = s.predpDesc := rfl
@[simp] theorem State.setRes_prednDesc (v : Dword) : (s.setRes v).prednDesc = s.prednDesc := rfl
@[simp] theorem State.setRes_lat (v : Dword) : (s.setRes v).lat = s.lat := rfl
@[simp] theorem State.setRes_scr (v : Dword) : (s.setRes v).scr = s.scr := rfl
@[simp] theorem State.setRes_pred (v : Dword) : (s.setRes v).pred = s.pred := rfl
@[simp] theorem State.setRes_predp (v : Dword) : (s.setRes v).predp = s.predp := rfl
@[simp] theorem State.setRes_predn (v : Dword) : (s.setRes v).predn = s.predn := rfl
@[simp] theorem State.setRes_out (v : Dword) : (s.setRes v).out = s.out := rfl
@[simp] theorem State.setRes_sigma (v : Dword) : (s.setRes v).sigma = s.sigma := rfl
@[simp] theorem State.setRes_ts (v : Dword) : (s.setRes v).ts = s.ts := rfl
@[simp] theorem State.setRes_hw (v : Dword) : (s.setRes v).hw = s.hw := rfl
@[simp] theorem State.setRes_inputs (v : Dword) : (s.setRes v).inputs = s.inputs := rfl
@[simp] theorem State.setRes_reply (v : Dword) : (s.setRes v).reply = s.reply := rfl
@[simp] theorem State.setRes_freeCount (v : Dword) : (s.setRes v).freeCount = s.freeCount := rfl
@[simp] theorem State.setRes_buf (v : Dword) (b : Buf) : (s.setRes v).buf b = s.buf b := by cases b <;> rfl
@[simp] theorem State.setRes_sched (v : Dword) (t : Sched) : (s.setRes v).sched t = s.sched t := by cases t <;> rfl
@[simp] theorem State.setRes_half (v : Dword) (b : Buf) (k : Nat) : (s.setRes v).half b k = s.half b k := by simp [State.half]
@[simp] theorem State.setRes_dword (v : Dword) (t : Sched) (k : Nat) : (s.setRes v).dword t k = s.dword t k := by simp [State.dword]
@[simp] theorem State.setRes_elems (v : Dword) : (s.setRes v).elems = s.elems := rfl
@[simp] theorem State.setRes_iterCount (v : Dword) : (s.setRes v).iterCount = s.iterCount := rfl

/-! `setRun` -/

@[simp] theorem State.setRun_fault (v : Bool) (i : BitVec 16) : (s.setRun v i).fault = s.fault := rfl
@[simp] theorem State.setRun_ivalid (v : Bool) (i : BitVec 16) : (s.setRun v i).ivalid = v := rfl
@[simp] theorem State.setRun_iter (v : Bool) (i : BitVec 16) : (s.setRun v i).iter = i := rfl
@[simp] theorem State.setRun_fcmd (v : Bool) (i : BitVec 16) : (s.setRun v i).fcmd = s.fcmd := rfl
@[simp] theorem State.setRun_opa (v : Bool) (i : BitVec 16) : (s.setRun v i).opa = s.opa := rfl
@[simp] theorem State.setRun_res (v : Bool) (i : BitVec 16) : (s.setRun v i).res = s.res := rfl
@[simp] theorem State.setRun_seed0 (v : Bool) (i : BitVec 16) : (s.setRun v i).seed0 = s.seed0 := rfl
@[simp] theorem State.setRun_seed1 (v : Bool) (i : BitVec 16) : (s.setRun v i).seed1 = s.seed1 := rfl
@[simp] theorem State.setRun_seed2 (v : Bool) (i : BitVec 16) : (s.setRun v i).seed2 = s.seed2 := rfl
@[simp] theorem State.setRun_seed3 (v : Bool) (i : BitVec 16) : (s.setRun v i).seed3 = s.seed3 := rfl
@[simp] theorem State.setRun_prng (v : Bool) (i : BitVec 16) : (s.setRun v i).prng = s.prng := rfl
@[simp] theorem State.setRun_niter (v : Bool) (i : BitVec 16) : (s.setRun v i).niter = s.niter := rfl
@[simp] theorem State.setRun_gscale (v : Bool) (i : BitVec 16) : (s.setRun v i).gscale = s.gscale := rfl
@[simp] theorem State.setRun_vaescale (v : Bool) (i : BitVec 16) : (s.setRun v i).vaescale = s.vaescale := rfl
@[simp] theorem State.setRun_latC (v : Bool) (i : BitVec 16) : (s.setRun v i).latC = s.latC := rfl
@[simp] theorem State.setRun_latH (v : Bool) (i : BitVec 16) : (s.setRun v i).latH = s.latH := rfl
@[simp] theorem State.setRun_latW (v : Bool) (i : BitVec 16) : (s.setRun v i).latW = s.latW := rfl
@[simp] theorem State.setRun_predDesc (v : Bool) (i : BitVec 16) : (s.setRun v i).predDesc = s.predDesc := rfl
@[simp] theorem State.setRun_predpDesc (v : Bool) (i : BitVec 16) : (s.setRun v i).predpDesc = s.predpDesc := rfl
@[simp] theorem State.setRun_prednDesc (v : Bool) (i : BitVec 16) : (s.setRun v i).prednDesc = s.prednDesc := rfl
@[simp] theorem State.setRun_lat (v : Bool) (i : BitVec 16) : (s.setRun v i).lat = s.lat := rfl
@[simp] theorem State.setRun_scr (v : Bool) (i : BitVec 16) : (s.setRun v i).scr = s.scr := rfl
@[simp] theorem State.setRun_pred (v : Bool) (i : BitVec 16) : (s.setRun v i).pred = s.pred := rfl
@[simp] theorem State.setRun_predp (v : Bool) (i : BitVec 16) : (s.setRun v i).predp = s.predp := rfl
@[simp] theorem State.setRun_predn (v : Bool) (i : BitVec 16) : (s.setRun v i).predn = s.predn := rfl
@[simp] theorem State.setRun_out (v : Bool) (i : BitVec 16) : (s.setRun v i).out = s.out := rfl
@[simp] theorem State.setRun_sigma (v : Bool) (i : BitVec 16) : (s.setRun v i).sigma = s.sigma := rfl
@[simp] theorem State.setRun_ts (v : Bool) (i : BitVec 16) : (s.setRun v i).ts = s.ts := rfl
@[simp] theorem State.setRun_hw (v : Bool) (i : BitVec 16) : (s.setRun v i).hw = s.hw := rfl
@[simp] theorem State.setRun_inputs (v : Bool) (i : BitVec 16) : (s.setRun v i).inputs = s.inputs := rfl
@[simp] theorem State.setRun_reply (v : Bool) (i : BitVec 16) : (s.setRun v i).reply = s.reply := rfl
@[simp] theorem State.setRun_freeCount (v : Bool) (i : BitVec 16) : (s.setRun v i).freeCount = s.freeCount := rfl
@[simp] theorem State.setRun_buf (v : Bool) (i : BitVec 16) (b : Buf) : (s.setRun v i).buf b = s.buf b := by cases b <;> rfl
@[simp] theorem State.setRun_sched (v : Bool) (i : BitVec 16) (t : Sched) : (s.setRun v i).sched t = s.sched t := by cases t <;> rfl
@[simp] theorem State.setRun_half (v : Bool) (i : BitVec 16) (b : Buf) (k : Nat) : (s.setRun v i).half b k = s.half b k := by simp [State.half]
@[simp] theorem State.setRun_dword (v : Bool) (i : BitVec 16) (t : Sched) (k : Nat) : (s.setRun v i).dword t k = s.dword t k := by simp [State.dword]
@[simp] theorem State.setRun_elems (v : Bool) (i : BitVec 16) : (s.setRun v i).elems = s.elems := rfl
@[simp] theorem State.setRun_iterCount (v : Bool) (i : BitVec 16) : (s.setRun v i).iterCount = s.iterCount := rfl

/-! `setPrng` -/

@[simp] theorem State.setPrng_fault (p : PrngWords) : (s.setPrng p).fault = s.fault := rfl
@[simp] theorem State.setPrng_ivalid (p : PrngWords) : (s.setPrng p).ivalid = s.ivalid := rfl
@[simp] theorem State.setPrng_iter (p : PrngWords) : (s.setPrng p).iter = s.iter := rfl
@[simp] theorem State.setPrng_fcmd (p : PrngWords) : (s.setPrng p).fcmd = s.fcmd := rfl
@[simp] theorem State.setPrng_opa (p : PrngWords) : (s.setPrng p).opa = s.opa := rfl
@[simp] theorem State.setPrng_res (p : PrngWords) : (s.setPrng p).res = s.res := rfl
@[simp] theorem State.setPrng_seed0 (p : PrngWords) : (s.setPrng p).seed0 = s.seed0 := rfl
@[simp] theorem State.setPrng_seed1 (p : PrngWords) : (s.setPrng p).seed1 = s.seed1 := rfl
@[simp] theorem State.setPrng_seed2 (p : PrngWords) : (s.setPrng p).seed2 = s.seed2 := rfl
@[simp] theorem State.setPrng_seed3 (p : PrngWords) : (s.setPrng p).seed3 = s.seed3 := rfl
@[simp] theorem State.setPrng_prng (p : PrngWords) : (s.setPrng p).prng = p := rfl
@[simp] theorem State.setPrng_niter (p : PrngWords) : (s.setPrng p).niter = s.niter := rfl
@[simp] theorem State.setPrng_gscale (p : PrngWords) : (s.setPrng p).gscale = s.gscale := rfl
@[simp] theorem State.setPrng_vaescale (p : PrngWords) : (s.setPrng p).vaescale = s.vaescale := rfl
@[simp] theorem State.setPrng_latC (p : PrngWords) : (s.setPrng p).latC = s.latC := rfl
@[simp] theorem State.setPrng_latH (p : PrngWords) : (s.setPrng p).latH = s.latH := rfl
@[simp] theorem State.setPrng_latW (p : PrngWords) : (s.setPrng p).latW = s.latW := rfl
@[simp] theorem State.setPrng_predDesc (p : PrngWords) : (s.setPrng p).predDesc = s.predDesc := rfl
@[simp] theorem State.setPrng_predpDesc (p : PrngWords) : (s.setPrng p).predpDesc = s.predpDesc := rfl
@[simp] theorem State.setPrng_prednDesc (p : PrngWords) : (s.setPrng p).prednDesc = s.prednDesc := rfl
@[simp] theorem State.setPrng_lat (p : PrngWords) : (s.setPrng p).lat = s.lat := rfl
@[simp] theorem State.setPrng_scr (p : PrngWords) : (s.setPrng p).scr = s.scr := rfl
@[simp] theorem State.setPrng_pred (p : PrngWords) : (s.setPrng p).pred = s.pred := rfl
@[simp] theorem State.setPrng_predp (p : PrngWords) : (s.setPrng p).predp = s.predp := rfl
@[simp] theorem State.setPrng_predn (p : PrngWords) : (s.setPrng p).predn = s.predn := rfl
@[simp] theorem State.setPrng_out (p : PrngWords) : (s.setPrng p).out = s.out := rfl
@[simp] theorem State.setPrng_sigma (p : PrngWords) : (s.setPrng p).sigma = s.sigma := rfl
@[simp] theorem State.setPrng_ts (p : PrngWords) : (s.setPrng p).ts = s.ts := rfl
@[simp] theorem State.setPrng_hw (p : PrngWords) : (s.setPrng p).hw = s.hw := rfl
@[simp] theorem State.setPrng_inputs (p : PrngWords) : (s.setPrng p).inputs = s.inputs := rfl
@[simp] theorem State.setPrng_reply (p : PrngWords) : (s.setPrng p).reply = s.reply := rfl
@[simp] theorem State.setPrng_freeCount (p : PrngWords) : (s.setPrng p).freeCount = s.freeCount := rfl
@[simp] theorem State.setPrng_buf (p : PrngWords) (b : Buf) : (s.setPrng p).buf b = s.buf b := by cases b <;> rfl
@[simp] theorem State.setPrng_sched (p : PrngWords) (t : Sched) : (s.setPrng p).sched t = s.sched t := by cases t <;> rfl
@[simp] theorem State.setPrng_half (p : PrngWords) (b : Buf) (k : Nat) : (s.setPrng p).half b k = s.half b k := by simp [State.half]
@[simp] theorem State.setPrng_dword (p : PrngWords) (t : Sched) (k : Nat) : (s.setPrng p).dword t k = s.dword t k := by simp [State.dword]
@[simp] theorem State.setPrng_elems (p : PrngWords) : (s.setPrng p).elems = s.elems := rfl
@[simp] theorem State.setPrng_iterCount (p : PrngWords) : (s.setPrng p).iterCount = s.iterCount := rfl

/-! `seedPrng` -/

@[simp] theorem State.seedPrng_fault : (s.seedPrng).fault = s.fault := rfl
@[simp] theorem State.seedPrng_ivalid : (s.seedPrng).ivalid = s.ivalid := rfl
@[simp] theorem State.seedPrng_iter : (s.seedPrng).iter = s.iter := rfl
@[simp] theorem State.seedPrng_fcmd : (s.seedPrng).fcmd = s.fcmd := rfl
@[simp] theorem State.seedPrng_opa : (s.seedPrng).opa = s.opa := rfl
@[simp] theorem State.seedPrng_res : (s.seedPrng).res = s.res := rfl
@[simp] theorem State.seedPrng_seed0 : (s.seedPrng).seed0 = s.seed0 := rfl
@[simp] theorem State.seedPrng_seed1 : (s.seedPrng).seed1 = s.seed1 := rfl
@[simp] theorem State.seedPrng_seed2 : (s.seedPrng).seed2 = s.seed2 := rfl
@[simp] theorem State.seedPrng_seed3 : (s.seedPrng).seed3 = s.seed3 := rfl
@[simp] theorem State.seedPrng_prng : (s.seedPrng).prng = s.seedWords := rfl
@[simp] theorem State.seedPrng_niter : (s.seedPrng).niter = s.niter := rfl
@[simp] theorem State.seedPrng_gscale : (s.seedPrng).gscale = s.gscale := rfl
@[simp] theorem State.seedPrng_vaescale : (s.seedPrng).vaescale = s.vaescale := rfl
@[simp] theorem State.seedPrng_latC : (s.seedPrng).latC = s.latC := rfl
@[simp] theorem State.seedPrng_latH : (s.seedPrng).latH = s.latH := rfl
@[simp] theorem State.seedPrng_latW : (s.seedPrng).latW = s.latW := rfl
@[simp] theorem State.seedPrng_predDesc : (s.seedPrng).predDesc = s.predDesc := rfl
@[simp] theorem State.seedPrng_predpDesc : (s.seedPrng).predpDesc = s.predpDesc := rfl
@[simp] theorem State.seedPrng_prednDesc : (s.seedPrng).prednDesc = s.prednDesc := rfl
@[simp] theorem State.seedPrng_lat : (s.seedPrng).lat = s.lat := rfl
@[simp] theorem State.seedPrng_scr : (s.seedPrng).scr = s.scr := rfl
@[simp] theorem State.seedPrng_pred : (s.seedPrng).pred = s.pred := rfl
@[simp] theorem State.seedPrng_predp : (s.seedPrng).predp = s.predp := rfl
@[simp] theorem State.seedPrng_predn : (s.seedPrng).predn = s.predn := rfl
@[simp] theorem State.seedPrng_out : (s.seedPrng).out = s.out := rfl
@[simp] theorem State.seedPrng_sigma : (s.seedPrng).sigma = s.sigma := rfl
@[simp] theorem State.seedPrng_ts : (s.seedPrng).ts = s.ts := rfl
@[simp] theorem State.seedPrng_hw : (s.seedPrng).hw = s.hw := rfl
@[simp] theorem State.seedPrng_inputs : (s.seedPrng).inputs = s.inputs := rfl
@[simp] theorem State.seedPrng_reply : (s.seedPrng).reply = s.reply := rfl
@[simp] theorem State.seedPrng_freeCount : (s.seedPrng).freeCount = s.freeCount := rfl
@[simp] theorem State.seedPrng_buf (b : Buf) : (s.seedPrng).buf b = s.buf b := by cases b <;> rfl
@[simp] theorem State.seedPrng_sched (t : Sched) : (s.seedPrng).sched t = s.sched t := by cases t <;> rfl
@[simp] theorem State.seedPrng_half (b : Buf) (k : Nat) : (s.seedPrng).half b k = s.half b k := by simp [State.half]
@[simp] theorem State.seedPrng_dword (t : Sched) (k : Nat) : (s.seedPrng).dword t k = s.dword t k := by simp [State.dword]
@[simp] theorem State.seedPrng_elems : (s.seedPrng).elems = s.elems := rfl
@[simp] theorem State.seedPrng_iterCount : (s.seedPrng).iterCount = s.iterCount := rfl

/-! `afterDraw` -/

@[simp] theorem State.afterDraw_fault : (s.afterDraw).fault = s.fault := rfl
@[simp] theorem State.afterDraw_ivalid : (s.afterDraw).ivalid = s.ivalid := rfl
@[simp] theorem State.afterDraw_iter : (s.afterDraw).iter = s.iter := rfl
@[simp] theorem State.afterDraw_fcmd : (s.afterDraw).fcmd = s.fcmd := rfl
@[simp] theorem State.afterDraw_opa : (s.afterDraw).opa = s.opa := rfl
@[simp] theorem State.afterDraw_res : (s.afterDraw).res = s.res := rfl
@[simp] theorem State.afterDraw_seed0 : (s.afterDraw).seed0 = s.seed0 := rfl
@[simp] theorem State.afterDraw_seed1 : (s.afterDraw).seed1 = s.seed1 := rfl
@[simp] theorem State.afterDraw_seed2 : (s.afterDraw).seed2 = s.seed2 := rfl
@[simp] theorem State.afterDraw_seed3 : (s.afterDraw).seed3 = s.seed3 := rfl
@[simp] theorem State.afterDraw_prng : (s.afterDraw).prng = prngNext s.hw.prngStep s.prng := rfl
@[simp] theorem State.afterDraw_niter : (s.afterDraw).niter = s.niter := rfl
@[simp] theorem State.afterDraw_gscale : (s.afterDraw).gscale = s.gscale := rfl
@[simp] theorem State.afterDraw_vaescale : (s.afterDraw).vaescale = s.vaescale := rfl
@[simp] theorem State.afterDraw_latC : (s.afterDraw).latC = s.latC := rfl
@[simp] theorem State.afterDraw_latH : (s.afterDraw).latH = s.latH := rfl
@[simp] theorem State.afterDraw_latW : (s.afterDraw).latW = s.latW := rfl
@[simp] theorem State.afterDraw_predDesc : (s.afterDraw).predDesc = s.predDesc := rfl
@[simp] theorem State.afterDraw_predpDesc : (s.afterDraw).predpDesc = s.predpDesc := rfl
@[simp] theorem State.afterDraw_prednDesc : (s.afterDraw).prednDesc = s.prednDesc := rfl
@[simp] theorem State.afterDraw_lat : (s.afterDraw).lat = s.lat := rfl
@[simp] theorem State.afterDraw_scr : (s.afterDraw).scr = s.scr := rfl
@[simp] theorem State.afterDraw_pred : (s.afterDraw).pred = s.pred := rfl
@[simp] theorem State.afterDraw_predp : (s.afterDraw).predp = s.predp := rfl
@[simp] theorem State.afterDraw_predn : (s.afterDraw).predn = s.predn := rfl
@[simp] theorem State.afterDraw_out : (s.afterDraw).out = s.out := rfl
@[simp] theorem State.afterDraw_sigma : (s.afterDraw).sigma = s.sigma := rfl
@[simp] theorem State.afterDraw_ts : (s.afterDraw).ts = s.ts := rfl
@[simp] theorem State.afterDraw_hw : (s.afterDraw).hw = s.hw := rfl
@[simp] theorem State.afterDraw_inputs : (s.afterDraw).inputs = s.inputs := rfl
@[simp] theorem State.afterDraw_reply : (s.afterDraw).reply = s.reply := rfl
@[simp] theorem State.afterDraw_freeCount : (s.afterDraw).freeCount = s.freeCount := rfl
@[simp] theorem State.afterDraw_buf (b : Buf) : (s.afterDraw).buf b = s.buf b := by cases b <;> rfl
@[simp] theorem State.afterDraw_sched (t : Sched) : (s.afterDraw).sched t = s.sched t := by cases t <;> rfl
@[simp] theorem State.afterDraw_half (b : Buf) (k : Nat) : (s.afterDraw).half b k = s.half b k := by simp [State.half]
@[simp] theorem State.afterDraw_dword (t : Sched) (k : Nat) : (s.afterDraw).dword t k = s.dword t k := by simp [State.dword]
@[simp] theorem State.afterDraw_elems : (s.afterDraw).elems = s.elems := rfl
@[simp] theorem State.afterDraw_iterCount : (s.afterDraw).iterCount = s.iterCount := rfl

/-! `countFree` -/

@[simp] theorem State.countFree_fault : (s.countFree).fault = s.fault := rfl
@[simp] theorem State.countFree_ivalid : (s.countFree).ivalid = s.ivalid := rfl
@[simp] theorem State.countFree_iter : (s.countFree).iter = s.iter := rfl
@[simp] theorem State.countFree_fcmd : (s.countFree).fcmd = s.fcmd := rfl
@[simp] theorem State.countFree_opa : (s.countFree).opa = s.opa := rfl
@[simp] theorem State.countFree_res : (s.countFree).res = s.res := rfl
@[simp] theorem State.countFree_seed0 : (s.countFree).seed0 = s.seed0 := rfl
@[simp] theorem State.countFree_seed1 : (s.countFree).seed1 = s.seed1 := rfl
@[simp] theorem State.countFree_seed2 : (s.countFree).seed2 = s.seed2 := rfl
@[simp] theorem State.countFree_seed3 : (s.countFree).seed3 = s.seed3 := rfl
@[simp] theorem State.countFree_prng : (s.countFree).prng = s.prng := rfl
@[simp] theorem State.countFree_niter : (s.countFree).niter = s.niter := rfl
@[simp] theorem State.countFree_gscale : (s.countFree).gscale = s.gscale := rfl
@[simp] theorem State.countFree_vaescale : (s.countFree).vaescale = s.vaescale := rfl
@[simp] theorem State.countFree_latC : (s.countFree).latC = s.latC := rfl
@[simp] theorem State.countFree_latH : (s.countFree).latH = s.latH := rfl
@[simp] theorem State.countFree_latW : (s.countFree).latW = s.latW := rfl
@[simp] theorem State.countFree_predDesc : (s.countFree).predDesc = s.predDesc := rfl
@[simp] theorem State.countFree_predpDesc : (s.countFree).predpDesc = s.predpDesc := rfl
@[simp] theorem State.countFree_prednDesc : (s.countFree).prednDesc = s.prednDesc := rfl
@[simp] theorem State.countFree_lat : (s.countFree).lat = s.lat := rfl
@[simp] theorem State.countFree_scr : (s.countFree).scr = s.scr := rfl
@[simp] theorem State.countFree_pred : (s.countFree).pred = s.pred := rfl
@[simp] theorem State.countFree_predp : (s.countFree).predp = s.predp := rfl
@[simp] theorem State.countFree_predn : (s.countFree).predn = s.predn := rfl
@[simp] theorem State.countFree_out : (s.countFree).out = s.out := rfl
@[simp] theorem State.countFree_sigma : (s.countFree).sigma = s.sigma := rfl
@[simp] theorem State.countFree_ts : (s.countFree).ts = s.ts := rfl
@[simp] theorem State.countFree_hw : (s.countFree).hw = s.hw := rfl
@[simp] theorem State.countFree_inputs : (s.countFree).inputs = s.inputs := rfl
@[simp] theorem State.countFree_reply : (s.countFree).reply = s.reply := rfl
@[simp] theorem State.countFree_freeCount : (s.countFree).freeCount = s.freeCount + 1 := rfl
@[simp] theorem State.countFree_buf (b : Buf) : (s.countFree).buf b = s.buf b := by cases b <;> rfl
@[simp] theorem State.countFree_sched (t : Sched) : (s.countFree).sched t = s.sched t := by cases t <;> rfl
@[simp] theorem State.countFree_half (b : Buf) (k : Nat) : (s.countFree).half b k = s.half b k := by simp [State.half]
@[simp] theorem State.countFree_dword (t : Sched) (k : Nat) : (s.countFree).dword t k = s.dword t k := by simp [State.dword]
@[simp] theorem State.countFree_elems : (s.countFree).elems = s.elems := rfl
@[simp] theorem State.countFree_iterCount : (s.countFree).iterCount = s.iterCount := rfl

/-! `raise` -/

@[simp] theorem State.raise_fault (f : FaultCode) (w : Word) : (s.raise f w).fault = f := rfl
@[simp] theorem State.raise_ivalid (f : FaultCode) (w : Word) : (s.raise f w).ivalid = false := rfl
@[simp] theorem State.raise_iter (f : FaultCode) (w : Word) : (s.raise f w).iter = 0 := rfl
@[simp] theorem State.raise_fcmd (f : FaultCode) (w : Word) : (s.raise f w).fcmd = w := rfl
@[simp] theorem State.raise_opa (f : FaultCode) (w : Word) : (s.raise f w).opa = s.opa := rfl
@[simp] theorem State.raise_res (f : FaultCode) (w : Word) : (s.raise f w).res = s.res := rfl
@[simp] theorem State.raise_seed0 (f : FaultCode) (w : Word) : (s.raise f w).seed0 = s.seed0 := rfl
@[simp] theorem State.raise_seed1 (f : FaultCode) (w : Word) : (s.raise f w).seed1 = s.seed1 := rfl
@[simp] theorem State.raise_seed2 (f : FaultCode) (w : Word) : (s.raise f w).seed2 = s.seed2 := rfl
@[simp] theorem State.raise_seed3 (f : FaultCode) (w : Word) : (s.raise f w).seed3 = s.seed3 := rfl
@[simp] theorem State.raise_prng (f : FaultCode) (w : Word) : (s.raise f w).prng = s.prng := rfl
@[simp] theorem State.raise_niter (f : FaultCode) (w : Word) : (s.raise f w).niter = s.niter := rfl
@[simp] theorem State.raise_gscale (f : FaultCode) (w : Word) : (s.raise f w).gscale = s.gscale := rfl
@[simp] theorem State.raise_vaescale (f : FaultCode) (w : Word) : (s.raise f w).vaescale = s.vaescale := rfl
@[simp] theorem State.raise_latC (f : FaultCode) (w : Word) : (s.raise f w).latC = s.latC := rfl
@[simp] theorem State.raise_latH (f : FaultCode) (w : Word) : (s.raise f w).latH = s.latH := rfl
@[simp] theorem State.raise_latW (f : FaultCode) (w : Word) : (s.raise f w).latW = s.latW := rfl
@[simp] theorem State.raise_predDesc (f : FaultCode) (w : Word) : (s.raise f w).predDesc = s.predDesc := rfl
@[simp] theorem State.raise_predpDesc (f : FaultCode) (w : Word) : (s.raise f w).predpDesc = s.predpDesc := rfl
@[simp] theorem State.raise_prednDesc (f : FaultCode) (w : Word) : (s.raise f w).prednDesc = s.prednDesc := rfl
@[simp] theorem State.raise_lat (f : FaultCode) (w : Word) : (s.raise f w).lat = s.lat := rfl
@[simp] theorem State.raise_scr (f : FaultCode) (w : Word) : (s.raise f w).scr = s.scr := rfl
@[simp] theorem State.raise_pred (f : FaultCode) (w : Word) : (s.raise f w).pred = s.pred := rfl
@[simp] theorem State.raise_predp (f : FaultCode) (w : Word) : (s.raise f w).predp = s.predp := rfl
@[simp] theorem State.raise_predn (f : FaultCode) (w : Word) : (s.raise f w).predn = s.predn := rfl
@[simp] theorem State.raise_out (f : FaultCode) (w : Word) : (s.raise f w).out = s.out := rfl
@[simp] theorem State.raise_sigma (f : FaultCode) (w : Word) : (s.raise f w).sigma = s.sigma := rfl
@[simp] theorem State.raise_ts (f : FaultCode) (w : Word) : (s.raise f w).ts = s.ts := rfl
@[simp] theorem State.raise_hw (f : FaultCode) (w : Word) : (s.raise f w).hw = s.hw := rfl
@[simp] theorem State.raise_inputs (f : FaultCode) (w : Word) : (s.raise f w).inputs = s.inputs := rfl
@[simp] theorem State.raise_reply (f : FaultCode) (w : Word) : (s.raise f w).reply = s.reply := rfl
@[simp] theorem State.raise_freeCount (f : FaultCode) (w : Word) : (s.raise f w).freeCount = s.freeCount := rfl
@[simp] theorem State.raise_buf (f : FaultCode) (w : Word) (b : Buf) : (s.raise f w).buf b = s.buf b := by cases b <;> rfl
@[simp] theorem State.raise_sched (f : FaultCode) (w : Word) (t : Sched) : (s.raise f w).sched t = s.sched t := by cases t <;> rfl
@[simp] theorem State.raise_half (f : FaultCode) (w : Word) (b : Buf) (k : Nat) : (s.raise f w).half b k = s.half b k := by simp [State.half]
@[simp] theorem State.raise_dword (f : FaultCode) (w : Word) (t : Sched) (k : Nat) : (s.raise f w).dword t k = s.dword t k := by simp [State.dword]
@[simp] theorem State.raise_elems (f : FaultCode) (w : Word) : (s.raise f w).elems = s.elems := rfl
@[simp] theorem State.raise_iterCount (f : FaultCode) (w : Word) : (s.raise f w).iterCount = s.iterCount := rfl

/-! `clearFault` -/

@[simp] theorem State.clearFault_fault : (s.clearFault).fault = .noFault := rfl
@[simp] theorem State.clearFault_ivalid : (s.clearFault).ivalid = s.ivalid := rfl
@[simp] theorem State.clearFault_iter : (s.clearFault).iter = s.iter := rfl
@[simp] theorem State.clearFault_fcmd : (s.clearFault).fcmd = 0 := rfl
@[simp] theorem State.clearFault_opa : (s.clearFault).opa = s.opa := rfl
@[simp] theorem State.clearFault_res : (s.clearFault).res = s.res := rfl
@[simp] theorem State.clearFault_seed0 : (s.clearFault).seed0 = s.seed0 := rfl
@[simp] theorem State.clearFault_seed1 : (s.clearFault).seed1 = s.seed1 := rfl
@[simp] theorem State.clearFault_seed2 : (s.clearFault).seed2 = s.seed2 := rfl
@[simp] theorem State.clearFault_seed3 : (s.clearFault).seed3 = s.seed3 := rfl
@[simp] theorem State.clearFault_prng : (s.clearFault).prng = s.prng := rfl
@[simp] theorem State.clearFault_niter : (s.clearFault).niter = s.niter := rfl
@[simp] theorem State.clearFault_gscale : (s.clearFault).gscale = s.gscale := rfl
@[simp] theorem State.clearFault_vaescale : (s.clearFault).vaescale = s.vaescale := rfl
@[simp] theorem State.clearFault_latC : (s.clearFault).latC = s.latC := rfl
@[simp] theorem State.clearFault_latH : (s.clearFault).latH = s.latH := rfl
@[simp] theorem State.clearFault_latW : (s.clearFault).latW = s.latW := rfl
@[simp] theorem State.clearFault_predDesc : (s.clearFault).predDesc = s.predDesc := rfl
@[simp] theorem State.clearFault_predpDesc : (s.clearFault).predpDesc = s.predpDesc := rfl
@[simp] theorem State.clearFault_prednDesc : (s.clearFault).prednDesc = s.prednDesc := rfl
@[simp] theorem State.clearFault_lat : (s.clearFault).lat = s.lat := rfl
@[simp] theorem State.clearFault_scr : (s.clearFault).scr = s.scr := rfl
@[simp] theorem State.clearFault_pred : (s.clearFault).pred = s.pred := rfl
@[simp] theorem State.clearFault_predp : (s.clearFault).predp = s.predp := rfl
@[simp] theorem State.clearFault_predn : (s.clearFault).predn = s.predn := rfl
@[simp] theorem State.clearFault_out : (s.clearFault).out = s.out := rfl
@[simp] theorem State.clearFault_sigma : (s.clearFault).sigma = s.sigma := rfl
@[simp] theorem State.clearFault_ts : (s.clearFault).ts = s.ts := rfl
@[simp] theorem State.clearFault_hw : (s.clearFault).hw = s.hw := rfl
@[simp] theorem State.clearFault_inputs : (s.clearFault).inputs = s.inputs := rfl
@[simp] theorem State.clearFault_reply : (s.clearFault).reply = s.reply := rfl
@[simp] theorem State.clearFault_freeCount : (s.clearFault).freeCount = s.freeCount := rfl
@[simp] theorem State.clearFault_buf (b : Buf) : (s.clearFault).buf b = s.buf b := by cases b <;> rfl
@[simp] theorem State.clearFault_sched (t : Sched) : (s.clearFault).sched t = s.sched t := by cases t <;> rfl
@[simp] theorem State.clearFault_half (b : Buf) (k : Nat) : (s.clearFault).half b k = s.half b k := by simp [State.half]
@[simp] theorem State.clearFault_dword (t : Sched) (k : Nat) : (s.clearFault).dword t k = s.dword t k := by simp [State.dword]
@[simp] theorem State.clearFault_elems : (s.clearFault).elems = s.elems := rfl
@[simp] theorem State.clearFault_iterCount : (s.clearFault).iterCount = s.iterCount := rfl

/-! `popInput` -/

@[simp] theorem State.popInput_fault (l : List Input) : (s.popInput l).fault = s.fault := rfl
@[simp] theorem State.popInput_ivalid (l : List Input) : (s.popInput l).ivalid = s.ivalid := rfl
@[simp] theorem State.popInput_iter (l : List Input) : (s.popInput l).iter = s.iter := rfl
@[simp] theorem State.popInput_fcmd (l : List Input) : (s.popInput l).fcmd = s.fcmd := rfl
@[simp] theorem State.popInput_opa (l : List Input) : (s.popInput l).opa = s.opa := rfl
@[simp] theorem State.popInput_res (l : List Input) : (s.popInput l).res = s.res := rfl
@[simp] theorem State.popInput_seed0 (l : List Input) : (s.popInput l).seed0 = s.seed0 := rfl
@[simp] theorem State.popInput_seed1 (l : List Input) : (s.popInput l).seed1 = s.seed1 := rfl
@[simp] theorem State.popInput_seed2 (l : List Input) : (s.popInput l).seed2 = s.seed2 := rfl
@[simp] theorem State.popInput_seed3 (l : List Input) : (s.popInput l).seed3 = s.seed3 := rfl
@[simp] theorem State.popInput_prng (l : List Input) : (s.popInput l).prng = s.prng := rfl
@[simp] theorem State.popInput_niter (l : List Input) : (s.popInput l).niter = s.niter := rfl
@[simp] theorem State.popInput_gscale (l : List Input) : (s.popInput l).gscale = s.gscale := rfl
@[simp] theorem State.popInput_vaescale (l : List Input) : (s.popInput l).vaescale = s.vaescale := rfl
@[simp] theorem State.popInput_latC (l : List Input) : (s.popInput l).latC = s.latC := rfl
@[simp] theorem State.popInput_latH (l : List Input) : (s.popInput l).latH = s.latH := rfl
@[simp] theorem State.popInput_latW (l : List Input) : (s.popInput l).latW = s.latW := rfl
@[simp] theorem State.popInput_predDesc (l : List Input) : (s.popInput l).predDesc = s.predDesc := rfl
@[simp] theorem State.popInput_predpDesc (l : List Input) : (s.popInput l).predpDesc = s.predpDesc := rfl
@[simp] theorem State.popInput_prednDesc (l : List Input) : (s.popInput l).prednDesc = s.prednDesc := rfl
@[simp] theorem State.popInput_lat (l : List Input) : (s.popInput l).lat = s.lat := rfl
@[simp] theorem State.popInput_scr (l : List Input) : (s.popInput l).scr = s.scr := rfl
@[simp] theorem State.popInput_pred (l : List Input) : (s.popInput l).pred = s.pred := rfl
@[simp] theorem State.popInput_predp (l : List Input) : (s.popInput l).predp = s.predp := rfl
@[simp] theorem State.popInput_predn (l : List Input) : (s.popInput l).predn = s.predn := rfl
@[simp] theorem State.popInput_out (l : List Input) : (s.popInput l).out = s.out := rfl
@[simp] theorem State.popInput_sigma (l : List Input) : (s.popInput l).sigma = s.sigma := rfl
@[simp] theorem State.popInput_ts (l : List Input) : (s.popInput l).ts = s.ts := rfl
@[simp] theorem State.popInput_hw (l : List Input) : (s.popInput l).hw = s.hw := rfl
@[simp] theorem State.popInput_inputs (l : List Input) : (s.popInput l).inputs = l := rfl
@[simp] theorem State.popInput_reply (l : List Input) : (s.popInput l).reply = none := rfl
@[simp] theorem State.popInput_freeCount (l : List Input) : (s.popInput l).freeCount = s.freeCount := rfl
@[simp] theorem State.popInput_buf (l : List Input) (b : Buf) : (s.popInput l).buf b = s.buf b := by cases b <;> rfl
@[simp] theorem State.popInput_sched (l : List Input) (t : Sched) : (s.popInput l).sched t = s.sched t := by cases t <;> rfl
@[simp] theorem State.popInput_half (l : List Input) (b : Buf) (k : Nat) : (s.popInput l).half b k = s.half b k := by simp [State.half]
@[simp] theorem State.popInput_dword (l : List Input) (t : Sched) (k : Nat) : (s.popInput l).dword t k = s.dword t k := by simp [State.dword]
@[simp] theorem State.popInput_elems (l : List Input) : (s.popInput l).elems = s.elems := rfl
@[simp] theorem State.popInput_iterCount (l : List Input) : (s.popInput l).iterCount = s.iterCount := rfl

/-! `setBuf` and `setSched` -/

@[simp] theorem State.setBuf_fault (b : Buf) (m : Memory) : (s.setBuf b m).fault = s.fault := by cases b <;> rfl
@[simp] theorem State.setBuf_ivalid (b : Buf) (m : Memory) : (s.setBuf b m).ivalid = s.ivalid := by cases b <;> rfl
@[simp] theorem State.setBuf_iter (b : Buf) (m : Memory) : (s.setBuf b m).iter = s.iter := by cases b <;> rfl
@[simp] theorem State.setBuf_fcmd (b : Buf) (m : Memory) : (s.setBuf b m).fcmd = s.fcmd := by cases b <;> rfl
@[simp] theorem State.setBuf_opa (b : Buf) (m : Memory) : (s.setBuf b m).opa = s.opa := by cases b <;> rfl
@[simp] theorem State.setBuf_res (b : Buf) (m : Memory) : (s.setBuf b m).res = s.res := by cases b <;> rfl
@[simp] theorem State.setBuf_seed0 (b : Buf) (m : Memory) : (s.setBuf b m).seed0 = s.seed0 := by cases b <;> rfl
@[simp] theorem State.setBuf_seed1 (b : Buf) (m : Memory) : (s.setBuf b m).seed1 = s.seed1 := by cases b <;> rfl
@[simp] theorem State.setBuf_seed2 (b : Buf) (m : Memory) : (s.setBuf b m).seed2 = s.seed2 := by cases b <;> rfl
@[simp] theorem State.setBuf_seed3 (b : Buf) (m : Memory) : (s.setBuf b m).seed3 = s.seed3 := by cases b <;> rfl
@[simp] theorem State.setBuf_prng (b : Buf) (m : Memory) : (s.setBuf b m).prng = s.prng := by cases b <;> rfl
@[simp] theorem State.setBuf_niter (b : Buf) (m : Memory) : (s.setBuf b m).niter = s.niter := by cases b <;> rfl
@[simp] theorem State.setBuf_gscale (b : Buf) (m : Memory) : (s.setBuf b m).gscale = s.gscale := by cases b <;> rfl
@[simp] theorem State.setBuf_vaescale (b : Buf) (m : Memory) : (s.setBuf b m).vaescale = s.vaescale := by cases b <;> rfl
@[simp] theorem State.setBuf_latC (b : Buf) (m : Memory) : (s.setBuf b m).latC = s.latC := by cases b <;> rfl
@[simp] theorem State.setBuf_latH (b : Buf) (m : Memory) : (s.setBuf b m).latH = s.latH := by cases b <;> rfl
@[simp] theorem State.setBuf_latW (b : Buf) (m : Memory) : (s.setBuf b m).latW = s.latW := by cases b <;> rfl
@[simp] theorem State.setBuf_predDesc (b : Buf) (m : Memory) : (s.setBuf b m).predDesc = s.predDesc := by cases b <;> rfl
@[simp] theorem State.setBuf_predpDesc (b : Buf) (m : Memory) : (s.setBuf b m).predpDesc = s.predpDesc := by cases b <;> rfl
@[simp] theorem State.setBuf_prednDesc (b : Buf) (m : Memory) : (s.setBuf b m).prednDesc = s.prednDesc := by cases b <;> rfl
@[simp] theorem State.setBuf_hw (b : Buf) (m : Memory) : (s.setBuf b m).hw = s.hw := by cases b <;> rfl
@[simp] theorem State.setBuf_inputs (b : Buf) (m : Memory) : (s.setBuf b m).inputs = s.inputs := by cases b <;> rfl
@[simp] theorem State.setBuf_reply (b : Buf) (m : Memory) : (s.setBuf b m).reply = s.reply := by cases b <;> rfl
@[simp] theorem State.setBuf_freeCount (b : Buf) (m : Memory) : (s.setBuf b m).freeCount = s.freeCount := by cases b <;> rfl
@[simp] theorem State.setSched_fault (t : Sched) (m : Memory) : (s.setSched t m).fault = s.fault := by cases t <;> rfl
@[simp] theorem State.setSched_ivalid (t : Sched) (m : Memory) : (s.setSched t m).ivalid = s.ivalid := by cases t <;> rfl
@[simp] theorem State.setSched_iter (t : Sched) (m : Memory) : (s.setSched t m).iter = s.iter := by cases t <;> rfl
@[simp] theorem State.setSched_fcmd (t : Sched) (m : Memory) : (s.setSched t m).fcmd = s.fcmd := by cases t <;> rfl
@[simp] theorem State.setSched_opa (t : Sched) (m : Memory) : (s.setSched t m).opa = s.opa := by cases t <;> rfl
@[simp] theorem State.setSched_res (t : Sched) (m : Memory) : (s.setSched t m).res = s.res := by cases t <;> rfl
@[simp] theorem State.setSched_seed0 (t : Sched) (m : Memory) : (s.setSched t m).seed0 = s.seed0 := by cases t <;> rfl
@[simp] theorem State.setSched_seed1 (t : Sched) (m : Memory) : (s.setSched t m).seed1 = s.seed1 := by cases t <;> rfl
@[simp] theorem State.setSched_seed2 (t : Sched) (m : Memory) : (s.setSched t m).seed2 = s.seed2 := by cases t <;> rfl
@[simp] theorem State.setSched_seed3 (t : Sched) (m : Memory) : (s.setSched t m).seed3 = s.seed3 := by cases t <;> rfl
@[simp] theorem State.setSched_prng (t : Sched) (m : Memory) : (s.setSched t m).prng = s.prng := by cases t <;> rfl
@[simp] theorem State.setSched_niter (t : Sched) (m : Memory) : (s.setSched t m).niter = s.niter := by cases t <;> rfl
@[simp] theorem State.setSched_gscale (t : Sched) (m : Memory) : (s.setSched t m).gscale = s.gscale := by cases t <;> rfl
@[simp] theorem State.setSched_vaescale (t : Sched) (m : Memory) : (s.setSched t m).vaescale = s.vaescale := by cases t <;> rfl
@[simp] theorem State.setSched_latC (t : Sched) (m : Memory) : (s.setSched t m).latC = s.latC := by cases t <;> rfl
@[simp] theorem State.setSched_latH (t : Sched) (m : Memory) : (s.setSched t m).latH = s.latH := by cases t <;> rfl
@[simp] theorem State.setSched_latW (t : Sched) (m : Memory) : (s.setSched t m).latW = s.latW := by cases t <;> rfl
@[simp] theorem State.setSched_predDesc (t : Sched) (m : Memory) : (s.setSched t m).predDesc = s.predDesc := by cases t <;> rfl
@[simp] theorem State.setSched_predpDesc (t : Sched) (m : Memory) : (s.setSched t m).predpDesc = s.predpDesc := by cases t <;> rfl
@[simp] theorem State.setSched_prednDesc (t : Sched) (m : Memory) : (s.setSched t m).prednDesc = s.prednDesc := by cases t <;> rfl
@[simp] theorem State.setSched_hw (t : Sched) (m : Memory) : (s.setSched t m).hw = s.hw := by cases t <;> rfl
@[simp] theorem State.setSched_inputs (t : Sched) (m : Memory) : (s.setSched t m).inputs = s.inputs := by cases t <;> rfl
@[simp] theorem State.setSched_reply (t : Sched) (m : Memory) : (s.setSched t m).reply = s.reply := by cases t <;> rfl
@[simp] theorem State.setSched_freeCount (t : Sched) (m : Memory) : (s.setSched t m).freeCount = s.freeCount := by cases t <;> rfl

@[simp] theorem State.setBuf_elems (b : Buf) (m : Memory) : (s.setBuf b m).elems = s.elems := by cases b <;> rfl
@[simp] theorem State.setBuf_iterCount (b : Buf) (m : Memory) : (s.setBuf b m).iterCount = s.iterCount := by cases b <;> rfl
@[simp] theorem State.setBuf_buf_self (b : Buf) (m : Memory) : (s.setBuf b m).buf b = m := by cases b <;> rfl
theorem State.setBuf_buf_ne (b b' : Buf) (m : Memory) (h : b' ≠ b) : (s.setBuf b m).buf b' = s.buf b' := by
  cases b <;> cases b' <;> first | rfl | exact absurd rfl h
@[simp] theorem State.setBuf_sched (b : Buf) (m : Memory) (t : Sched) : (s.setBuf b m).sched t = s.sched t := by
  cases b <;> cases t <;> rfl
@[simp] theorem State.setBuf_dword (b : Buf) (m : Memory) (t : Sched) (i : Nat) :
    (s.setBuf b m).dword t i = s.dword t i := by simp [State.dword]
@[simp] theorem State.setSched_sched_self (t : Sched) (m : Memory) : (s.setSched t m).sched t = m := by cases t <;> rfl
theorem State.setSched_sched_ne (t t' : Sched) (m : Memory) (h : t' ≠ t) : (s.setSched t m).sched t' = s.sched t' := by
  cases t <;> cases t' <;> first | rfl | exact absurd rfl h
@[simp] theorem State.setSched_buf (t : Sched) (m : Memory) (b : Buf) : (s.setSched t m).buf b = s.buf b := by
  cases b <;> cases t <;> rfl
/-- Writing a memory twice is writing it once. -/
@[simp] theorem State.setBuf_setBuf (b : Buf) (m m' : Memory) : (s.setBuf b m).setBuf b m' = s.setBuf b m' := by
  cases b <;> rfl
/-- Writing back what a memory holds changes nothing. -/
@[simp] theorem State.setBuf_buf (b : Buf) : s.setBuf b (s.buf b) = s := by cases b <;> rfl

/-! `writeReg`: the registers the host may write are configuration and operands only. -/

@[simp] theorem State.writeReg_fault (r : Reg) (v : Dword) : (s.writeReg r v).fault = s.fault := by cases r <;> rfl
@[simp] theorem State.writeReg_ivalid (r : Reg) (v : Dword) : (s.writeReg r v).ivalid = s.ivalid := by cases r <;> rfl
@[simp] theorem State.writeReg_iter (r : Reg) (v : Dword) : (s.writeReg r v).iter = s.iter := by cases r <;> rfl
@[simp] theorem State.writeReg_fcmd (r : Reg) (v : Dword) : (s.writeReg r v).fcmd = s.fcmd := by cases r <;> rfl
@[simp] theorem State.writeReg_res (r : Reg) (v : Dword) : (s.writeReg r v).res = s.res := by cases r <;> rfl
@[simp] theorem State.writeReg_prng (r : Reg) (v : Dword) : (s.writeReg r v).prng = s.prng := by cases r <;> rfl
@[simp] theorem State.writeReg_lat (r : Reg) (v : Dword) : (s.writeReg r v).lat = s.lat := by cases r <;> rfl
@[simp] theorem State.writeReg_scr (r : Reg) (v : Dword) : (s.writeReg r v).scr = s.scr := by cases r <;> rfl
@[simp] theorem State.writeReg_pred (r : Reg) (v : Dword) : (s.writeReg r v).pred = s.pred := by cases r <;> rfl
@[simp] theorem State.writeReg_predp (r : Reg) (v : Dword) : (s.writeReg r v).predp = s.predp := by cases r <;> rfl
@[simp] theorem State.writeReg_predn (r : Reg) (v : Dword) : (s.writeReg r v).predn = s.predn := by cases r <;> rfl
@[simp] theorem State.writeReg_out (r : Reg) (v : Dword) : (s.writeReg r v).out = s.out := by cases r <;> rfl
@[simp] theorem State.writeReg_sigma (r : Reg) (v : Dword) : (s.writeReg r v).sigma = s.sigma := by cases r <;> rfl
@[simp] theorem State.writeReg_ts (r : Reg) (v : Dword) : (s.writeReg r v).ts = s.ts := by cases r <;> rfl
@[simp] theorem State.writeReg_hw (r : Reg) (v : Dword) : (s.writeReg r v).hw = s.hw := by cases r <;> rfl
@[simp] theorem State.writeReg_inputs (r : Reg) (v : Dword) : (s.writeReg r v).inputs = s.inputs := by cases r <;> rfl
@[simp] theorem State.writeReg_reply (r : Reg) (v : Dword) : (s.writeReg r v).reply = s.reply := by cases r <;> rfl
@[simp] theorem State.writeReg_freeCount (r : Reg) (v : Dword) : (s.writeReg r v).freeCount = s.freeCount := by cases r <;> rfl
@[simp] theorem State.writeReg_buf (r : Reg) (v : Dword) (b : Buf) : (s.writeReg r v).buf b = s.buf b := by
  cases b <;> simp [State.buf]
@[simp] theorem State.writeReg_sched (r : Reg) (v : Dword) (t : Sched) : (s.writeReg r v).sched t = s.sched t := by
  cases t <;> simp [State.sched]

end Sys2Proof.Machine
end

