-- ==== Sys2Proof/Laws/Memory.lean ====
section
/-! SUPPORT. Memories: a byte or an element reads as what was last written to it; every write keeps the canonical form and
the size; memories with equal bytes are equal data. -/

namespace Sys2Proof.Machine

open Sys2Proof

namespace Memory

@[simp] theorem byte_nil (a : Nat) : byte [] a = unlistedByte := rfl

/-- A byte below every entry is unlisted. -/
theorem byte_below (m : Memory) (a : Nat) (h : ∀ c ∈ m, a < c.1) : byte m a = unlistedByte := by
  induction m with
  | nil => rfl
  | cons c m ih =>
    have hc := h c (by simp)
    simp only [byte, Nat.ne_of_gt hc, if_false]
    exact ih fun c' hc' => h c' (List.mem_cons_of_mem _ hc')

/-- An entry of the memory after one byte is written. -/
theorem mem_put {m : Memory} {a : Nat} {v : Byte} {c : Host.Cell} (h : c ∈ put m a v) : c = (a, v) ∨ c ∈ m := by
  induction m with
  | nil =>
    simp only [put] at h
    split at h <;> simp_all
  | cons d m ih =>
    simp only [put] at h
    split at h
    · split at h
      · exact .inr h
      · exact (List.mem_cons.1 h).imp id id
    · split at h
      · split at h
        · exact .inr (List.mem_cons_of_mem _ h)
        · exact (List.mem_cons.1 h).imp id (List.mem_cons_of_mem _)
      · rcases List.mem_cons.1 h with h | h
        · exact .inr (h ▸ List.mem_cons_self ..)
        · exact (ih h).imp id (List.mem_cons_of_mem _)

/-- No entry equal to the unlisted byte is ever made. -/
theorem put_listed {m : Memory} {a : Nat} {v : Byte} (hm : ∀ c ∈ m, c.2 ≠ unlistedByte) :
    ∀ c ∈ put m a v, c.2 ≠ unlistedByte := by
  intro c hc
  induction m with
  | nil =>
    simp only [put] at hc
    split at hc
    · simp at hc
    · simp only [List.mem_singleton] at hc
      subst hc
      assumption
  | cons d m ih =>
    have hm' : ∀ c ∈ m, c.2 ≠ unlistedByte := fun c hc => hm c (List.mem_cons_of_mem _ hc)
    simp only [put] at hc
    split at hc
    · split at hc
      · exact hm c hc
      · rcases List.mem_cons.1 hc with rfl | hc
        · assumption
        · exact hm c hc
    · split at hc
      · split at hc
        · exact hm' c hc
        · rcases List.mem_cons.1 hc with rfl | hc
          · assumption
          · exact hm' c hc
      · rcases List.mem_cons.1 hc with rfl | hc
        · exact hm c (List.mem_cons_self ..)
        · exact ih hm' hc

/-- Writing a byte keeps the canonical form. -/
theorem put_wf {m : Memory} (a : Nat) (v : Byte) (h : m.wf) : (put m a v).wf := by
  refine ⟨?_, put_listed h.2⟩
  obtain ⟨hp, -⟩ := h
  induction m with
  | nil => simp only [put]; split <;> simp
  | cons c m ih =>
    obtain ⟨hc, hm⟩ := List.pairwise_cons.1 hp
    simp only [put]
    split
    · split
      · exact hp
      · refine List.pairwise_cons.2 ⟨fun c' hc' => ?_, hp⟩
        rcases List.mem_cons.1 hc' with rfl | hc'
        · assumption
        · have := hc _ hc'; simp only; omega
    · split
      · split
        · exact hm
        · refine List.pairwise_cons.2 ⟨fun c' hc' => ?_, hm⟩
          have := hc _ hc'; simp only; omega
      · refine List.pairwise_cons.2 ⟨fun c' hc' => ?_, ih hm⟩
        rcases mem_put hc' with rfl | hc'
        · simp only; omega
        · exact hc _ hc'

/-- Reading one byte after writing one. -/
theorem byte_put {m : Memory} (a : Nat) (v : Byte) (b : Nat) (h : m.wf) :
    byte (put m a v) b = if b = a then v else byte m b := by
  obtain ⟨hp, -⟩ := h
  induction m with
  | nil =>
    simp only [put]
    split
    · rename_i hv; simp [hv]
    · by_cases hb : b = a
      · simp [byte, hb]
      · simp [byte, hb, Ne.symm hb]
  | cons c m ih =>
    obtain ⟨hc, hm⟩ := List.pairwise_cons.1 hp
    simp only [put]
    split
    · rename_i hlt
      have hbelow : byte (c :: m) a = unlistedByte :=
        byte_below _ _ fun c' hc' => by
          rcases List.mem_cons.1 hc' with rfl | hc'
          · exact hlt
          · exact lt_trans hlt (hc _ hc')
      split
      · rename_i hv
        by_cases hb : b = a
        · subst hb; simp [hbelow, hv]
        · simp [hb]
      · by_cases hb : b = a
        · subst hb; simp [byte]
        · simp [byte, hb, Ne.symm hb]
    · split
      · rename_i _ heq
        have hbelow : byte m a = unlistedByte := byte_below _ _ fun c' hc' => heq ▸ hc _ hc'
        split
        · rename_i hv
          by_cases hb : b = a
          · subst hb; simp [hbelow, hv]
          · simp [byte, hb, ← heq, Ne.symm hb]
        · by_cases hb : b = a
          · subst hb; simp [byte]
          · simp [byte, hb, ← heq, Ne.symm hb]
      · rename_i _ hne
        by_cases hcb : c.1 = b
        · have hb : b ≠ a := fun h => hne (h ▸ hcb.symm)
          simp [byte, hcb, hb]
        · simp only [byte, hcb, if_false]
          exact ih hm

/-- Writing bytes keeps the canonical form. -/
theorem writeLE_wf {m : Memory} (a n v : Nat) (h : m.wf) : (writeLE m a n v).wf := by
  induction n generalizing m a v with
  | zero => exact h
  | succ n ih => exact ih _ _ (put_wf _ _ h)

/-- A write of `n` bytes from `a` leaves every byte outside `a .. a + n - 1`. -/
theorem byte_writeLE_outside {m : Memory} (a n v b : Nat) (h : m.wf) (hb : b < a ∨ a + n ≤ b) :
    byte (writeLE m a n v) b = byte m b := by
  induction n generalizing m a v with
  | zero => rfl
  | succ n ih =>
    simp only [writeLE]
    rw [ih _ _ (put_wf _ _ h) (by omega), byte_put _ _ _ h, if_neg (by omega)]

/-- A read depends on the bytes it reads alone. -/
theorem readLE_congr {m m' : Memory} (a n : Nat) (h : ∀ b, a ≤ b → b < a + n → byte m b = byte m' b) :
    readLE m a n = readLE m' a n := by
  induction n generalizing a with
  | zero => rfl
  | succ n ih =>
    simp only [readLE]
    rw [h a (by omega) (by omega), ih _ fun b hb hb' => h b (by omega) (by omega)]

/-- A read of the bytes just written gives what was written. -/
theorem readLE_writeLE {m : Memory} (a n v : Nat) (h : m.wf) : readLE (writeLE m a n v) a n = v % 256 ^ n := by
  induction n generalizing m a v with
  | zero => simp [readLE, Nat.mod_one]
  | succ n ih =>
    simp only [readLE, writeLE]
    rw [ih _ _ (put_wf _ _ h), byte_writeLE_outside _ _ _ _ (put_wf _ _ h) (by omega), byte_put _ _ _ h, if_pos rfl,
      BitVec.toNat_ofNat, show 256 ^ (n + 1) = 256 * 256 ^ n by rw [Nat.pow_succ, Nat.mul_comm], Nat.mod_mul]

/-- A read of bytes that a write does not touch. -/
theorem readLE_writeLE_disjoint {m : Memory} (a n v b k : Nat) (h : m.wf) (hd : b + k ≤ a ∨ a + n ≤ b) :
    readLE (writeLE m a n v) b k = readLE m b k :=
  readLE_congr _ _ fun c hc hc' => byte_writeLE_outside _ _ _ _ h (by omega)

/-- A write inside a memory stays within its size. -/
theorem writeLE_within {m : Memory} {w size : Nat} (a n v : Nat) (h : m.within w size) (ha : a + n ≤ elemAddr w size) :
    (writeLE m a n v).within w size := by
  refine ⟨writeLE_wf _ _ _ h.1, ?_⟩
  induction n generalizing m a v with
  | zero => exact h.2
  | succ n ih =>
    refine ih (m := put m a (BitVec.ofNat 8 v)) (a + 1) (v / 256) ⟨put_wf _ _ h.1, fun c hc => ?_⟩ (by omega)
    rcases mem_put hc with rfl | hc
    · simp only; omega
    · exact h.2 _ hc

theorem putHalf_wf {m : Memory} (i : Nat) (v : Half) (h : m.wf) : (putHalf m i v).wf := writeLE_wf _ _ _ h

theorem putDword_wf {m : Memory} (i : Nat) (v : Dword) (h : m.wf) : (putDword m i v).wf := writeLE_wf _ _ _ h

/-- Writing an element of a halfword memory keeps its form and its size. -/
theorem putHalf_within {m : Memory} {size : Nat} (i : Nat) (v : Half) (h : m.within 2 size) (hi : i < size) :
    (putHalf m i v).within 2 size :=
  writeLE_within _ _ _ h (by simp only [elemAddr]; omega)

/-- Writing an element of a schedule memory keeps its form and its size. -/
theorem putDword_within {m : Memory} {size : Nat} (i : Nat) (v : Dword) (h : m.within 8 size) (hi : i < size) :
    (putDword m i v).within 8 size :=
  writeLE_within _ _ _ h (by simp only [elemAddr]; omega)

/-- Reading one halfword element after writing one. -/
theorem half_putHalf {m : Memory} (i : Nat) (v : Half) (j : Nat) (h : m.wf) :
    BitVec.ofNat 16 ((putHalf m i v).readLE (elemAddr 2 j) 2) =
      if j = i then v else BitVec.ofNat 16 (m.readLE (elemAddr 2 j) 2) := by
  by_cases hij : j = i
  · subst hij
    rw [if_pos rfl, putHalf, readLE_writeLE _ _ _ h, Nat.mod_eq_of_lt (by have := v.isLt; omega)]
    simp
  · rw [if_neg hij, putHalf, readLE_writeLE_disjoint _ _ _ _ _ h (by simp only [elemAddr]; omega)]

/-- Reading one schedule element after writing one. -/
theorem dword_putDword {m : Memory} (i : Nat) (v : Dword) (j : Nat) (h : m.wf) :
    BitVec.ofNat 64 ((putDword m i v).readLE (elemAddr 8 j) 8) =
      if j = i then v else BitVec.ofNat 64 (m.readLE (elemAddr 8 j) 8) := by
  by_cases hij : j = i
  · subst hij
    rw [if_pos rfl, putDword, readLE_writeLE _ _ _ h, Nat.mod_eq_of_lt (by have := v.isLt; omega)]
    simp
  · rw [if_neg hij, putDword, readLE_writeLE_disjoint _ _ _ _ _ h (by simp only [elemAddr]; omega)]

/-- A byte outside the element written is left. -/
theorem byte_putHalf_outside {m : Memory} (i : Nat) (v : Half) (a : Nat) (h : m.wf)
    (ha : a ≠ elemAddr 2 i ∧ a ≠ elemAddr 2 i + 1) : byte (putHalf m i v) a = byte m a :=
  byte_writeLE_outside _ _ _ _ h (by omega)

/-- Memories in canonical form with equal bytes are equal data. -/
theorem ext_of_wf {m m' : Memory} (h : m.wf) (h' : m'.wf) (hb : ∀ a, byte m a = byte m' a) : m = m' := by
  induction m generalizing m' with
  | nil =>
    cases m' with
    | nil => rfl
    | cons c' m' =>
      have := hb c'.1
      simp only [byte, if_true] at this
      exact absurd this.symm (h'.2 c' (List.mem_cons_self ..))
  | cons c m ih =>
    obtain ⟨hc, hm⟩ := List.pairwise_cons.1 h.1
    cases m' with
    | nil =>
      have := hb c.1
      simp only [byte, if_true] at this
      exact absurd this (h.2 c (List.mem_cons_self ..))
    | cons c' m' =>
      obtain ⟨hc', hm'⟩ := List.pairwise_cons.1 h'.1
      have hne := h.2 c (List.mem_cons_self ..)
      have hne' := h'.2 c' (List.mem_cons_self ..)
      have key : c.1 = c'.1 := by
        rcases lt_trichotomy c.1 c'.1 with hlt | heq | hgt
        · have h1 := hb c.1
          rw [byte_below (c' :: m') c.1 (fun d hd => by
            rcases List.mem_cons.1 hd with rfl | hd
            · exact hlt
            · exact lt_trans hlt (hc' _ hd))] at h1
          simp only [byte, if_true] at h1
          exact absurd h1 hne
        · exact heq
        · have h1 := hb c'.1
          rw [byte_below (c :: m) c'.1 (fun d hd => by
            rcases List.mem_cons.1 hd with rfl | hd
            · exact hgt
            · exact lt_trans hgt (hc _ hd))] at h1
          simp only [byte, if_true] at h1
          exact absurd h1.symm hne'
      have hv : c.2 = c'.2 := by
        have := hb c.1
        simpa [byte, key] using this
      have hcc : c = c' := Prod.ext key hv
      subst hcc
      congr 1
      refine ih ⟨hm, fun d hd => h.2 d (List.mem_cons_of_mem _ hd)⟩
        ⟨hm', fun d hd => h'.2 d (List.mem_cons_of_mem _ hd)⟩ fun a => ?_
      have := hb a
      by_cases ha : c.1 = a
      · subst ha
        rw [byte_below m _ fun d hd => hc _ hd, byte_below m' _ fun d hd => hc' _ hd]
      · simpa [byte, ha] using this

end Memory

end Sys2Proof.Machine
end

