-- ==== Sys2Proof/Laws/Ops.lean ====
section
/-! SUPPORT. What each shared operation can do, said once: element accesses, the element loop, the checks, a guarded
command. -/

namespace Sys2Proof.Machine

open Sys2Proof

/-! Element accesses. -/

theorem State.read16_eq_some {b : Buf} {i : Nat} {s : State} {h : Half} :
    s.read16 b i = some h ↔ i < bufSize s.hw b ∧ s.half b i = h := by
  simp [State.read16]

theorem State.write16_eq_some {b : Buf} {i : Nat} {v : Half} {s t : State} :
    s.write16 b i v = some t ↔ i < bufSize s.hw b ∧ s.setBuf b ((s.buf b).putHalf i v) = t := by
  simp [State.write16]

theorem State.read64_eq_some {q : Sched} {i : Nat} {s : State} {d : Dword} :
    s.read64 q i = some d ↔ i < schedSize s.hw q ∧ s.dword q i = d := by
  simp [State.read64]

theorem State.read16_of_lt {b : Buf} {i : Nat} {s : State} (h : i < bufSize s.hw b) : s.read16 b i = some (s.half b i) :=
  State.read16_eq_some.2 ⟨h, rfl⟩

theorem State.write16_of_lt {b : Buf} {i : Nat} {v : Half} {s : State} (h : i < bufSize s.hw b) :
    s.write16 b i v = some (s.setBuf b ((s.buf b).putHalf i v)) :=
  State.write16_eq_some.2 ⟨h, rfl⟩

theorem State.read64_of_lt {q : Sched} {i : Nat} {s : State} (h : i < schedSize s.hw q) :
    s.read64 q i = some (s.dword q i) :=
  State.read64_eq_some.2 ⟨h, rfl⟩

/-- An element of a buffer after one element of a buffer is written. -/
theorem State.half_setBuf_putHalf {b : Buf} {i : Nat} {v : Half} {s : State} (b' : Buf) (j : Nat) (h : (s.buf b).wf) :
    (s.setBuf b ((s.buf b).putHalf i v)).half b' j = if b' = b ∧ j = i then v else s.half b' j := by
  by_cases hb : b' = b
  · subst hb
    simp only [State.half, State.setBuf_buf_self, Memory.half_putHalf _ _ _ h, true_and]
  · simp [State.half, State.setBuf_buf_ne _ _ _ _ hb, hb]

/-- Writing an element of a buffer keeps the memories in form. -/
theorem State.MemoryOk.setBuf_putHalf {s : State} (hs : s.MemoryOk) {b : Buf} {i : Nat} (v : Half)
    (hi : i < bufSize s.hw b) : (s.setBuf b ((s.buf b).putHalf i v)).MemoryOk where
  bufs b' := by
    by_cases hb : b' = b
    · subst hb
      simpa using Memory.putHalf_within i v (hs.bufs b') hi
    · simpa [State.setBuf_buf_ne _ _ _ _ hb] using hs.bufs b'
  scheds t := by simpa using hs.scheds t

/-- Writing an element of a schedule memory keeps the memories in form. -/
theorem State.MemoryOk.setSched_putDword {s : State} (hs : s.MemoryOk) {q : Sched} {i : Nat} (v : Dword)
    (hi : i < schedSize s.hw q) : (s.setSched q ((s.sched q).putDword i v)).MemoryOk where
  bufs b := by simpa using hs.bufs b
  scheds q' := by
    by_cases hq : q' = q
    · subst hq
      simpa using Memory.putDword_within i v (hs.scheds q') hi
    · simpa [State.setSched_sched_ne _ _ _ _ hq] using hs.scheds q'

/-! The element loop. -/

/-- A loop that completes keeps what each turn keeps: `P k` before turn `k`. -/
theorem forElems_keeps {body : Nat → State → Option State} (P : Nat → State → Prop) {n k : Nat} {s t : State}
    (turn : ∀ j u v, k ≤ j → j < k + n → P j u → body j u = some v → P (j + 1) v) (h0 : P k s)
    (h : forElems body n k s = some t) : P (k + n) t := by
  induction n generalizing k s with
  | zero => simp only [forElems, Option.some.injEq] at h; exact h ▸ h0
  | succ n ih =>
    simp only [forElems] at h
    split at h
    · rename_i u hu
      have := ih (fun j u v hj hj' => turn j u v (by omega) (by omega)) (turn k s u le_rfl (by omega) h0 hu) h
      rwa [show k + (n + 1) = k + 1 + n by omega]
    · cases h

/-- A loop each of whose turns completes, completes. -/
theorem forElems_completes {body : Nat → State → Option State} (P : Nat → State → Prop) {n k : Nat} {s : State}
    (turn : ∀ j u, k ≤ j → j < k + n → P j u → ∃ v, body j u = some v ∧ P (j + 1) v) (h0 : P k s) :
    ∃ t, forElems body n k s = some t ∧ P (k + n) t := by
  induction n generalizing k s with
  | zero => exact ⟨s, rfl, h0⟩
  | succ n ih =>
    obtain ⟨u, hu, hP⟩ := turn k s le_rfl (by omega) h0
    obtain ⟨t, ht, hPt⟩ := ih (fun j u hj hj' => turn j u (by omega) (by omega)) hP
    exact ⟨t, by simp only [forElems, hu, ht], by rwa [show k + (n + 1) = k + 1 + n by omega]⟩

/-- Two loops whose turns agree on the states they pass through agree. -/
theorem forElems_congr {body body' : Nat → State → Option State} (P : State → Prop) {n k : Nat} {s : State}
    (agree : ∀ j u, k ≤ j → j < k + n → P u → body j u = body' j u)
    (keep : ∀ j u v, k ≤ j → j < k + n → P u → body j u = some v → P v) (h0 : P s) :
    forElems body n k s = forElems body' n k s := by
  induction n generalizing k s with
  | zero => rfl
  | succ n ih =>
    simp only [forElems, ← agree k s le_rfl (by omega) h0]
    split
    · rename_i u hu
      exact ih (fun j u hj hj' => agree j u (by omega) (by omega)) (fun j u v hj hj' => keep j u v (by omega) (by omega))
        (keep k s u le_rfl (by omega) h0 hu)
    · rfl

/-! Checks. -/

@[simp] theorem firstFault_nil : firstFault [] = none := rfl
@[simp] theorem firstFault_some (f : FaultCode) (l : List (Option FaultCode)) : firstFault (some f :: l) = some f := rfl
@[simp] theorem firstFault_none (l : List (Option FaultCode)) : firstFault (none :: l) = firstFault l := rfl

/-- All checks pass exactly when no fault is raised. -/
theorem firstFault_eq_none {l : List (Option FaultCode)} : firstFault l = none ↔ ∀ c ∈ l, c = none := by
  induction l with
  | nil => simp
  | cons c l ih => cases c <;> simp [ih]

/-- The fault raised is that of a check. -/
theorem firstFault_mem {l : List (Option FaultCode)} {f : FaultCode} (h : firstFault l = some f) : some f ∈ l := by
  induction l with
  | nil => cases h
  | cons c l ih =>
    cases c with
    | none => exact List.mem_cons_of_mem _ (ih h)
    | some g => simp only [firstFault_some, Option.some.injEq] at h; simp [h]

@[simp] theorem checkTag_eq_none {dt : Tag} : checkTag dt = none ↔ dt = tagF16 := by simp [checkTag]
@[simp] theorem checkElems_eq_none {s : State} : checkElems s = none ↔ s.elems ≤ s.hw.eMax := by simp [checkElems]
@[simp] theorem checkIterDefined_eq_none {s : State} : checkIterDefined s = none ↔ s.ivalid = true := by
  simp [checkIterDefined]
@[simp] theorem checkSigma_eq_none {i : Nat} {s : State} : checkSigma i s = none ↔ i ≤ s.iterCount := by simp [checkSigma]
/-- An index below `NITER` and `N_MAX` is below `N`. -/
theorem State.belowN_iff {i : Nat} {s : State} : s.belowN i ↔ i < s.iterCount := lt_min_iff.symm

@[simp] theorem checkDelta_eq_none {i : Nat} {s : State} : checkDelta i s = none ↔ i < s.iterCount := by
  simp [checkDelta, ← State.belowN_iff]
@[simp] theorem checkTimestep_eq_none {i : Nat} {s : State} : checkTimestep i s = none ↔ i < s.iterCount := by
  simp [checkTimestep, ← State.belowN_iff]
@[simp] theorem checkPredDtypeC_eq_none {s : State} : checkPredDtypeC s = none ↔ s.predDesc.dt = tagF16 := by
  simp [checkPredDtypeC]
@[simp] theorem checkPredDtypeS_eq_none {s : State} :
    checkPredDtypeS s = none ↔ s.predpDesc.dt = tagF16 ∧ s.prednDesc.dt = tagF16 := by
  simp [checkPredDtypeS]
@[simp] theorem checkPredShapeC_eq_none {s : State} : checkPredShapeC s = none ↔ s.dimsMatch 2 s.predDesc := by
  simp [checkPredShapeC]
@[simp] theorem checkPredShapeS_eq_none {s : State} :
    checkPredShapeS s = none ↔ s.dimsMatch 1 s.predpDesc ∧ s.dimsMatch 1 s.prednDesc := by
  simp only [checkPredShapeS, ite_eq_left_iff, reduceCtorEq, imp_false, not_not]

/-- `N` is at most `N_MAX`: an index that passes a schedule check is inside the store (R282). -/
theorem State.iterCount_le (s : State) : s.iterCount ≤ s.hw.nMax := min_le_right _ _

/-- `N` is at most 65535 (R26). -/
theorem State.iterCount_lt (s : State) : s.iterCount < 65536 := lt_of_le_of_lt (min_le_left _ _) s.niter.isLt

/-- What a guarded command can do: fault entry by its first failing check, or its body (R266, R267). -/
theorem guarded_next {i : Instr} {checks : List (Option FaultCode)} {body : State → Option State} {s t : State} :
    guarded i checks body s = .next t ↔
      (∃ f, firstFault checks = some f ∧ t = s.raise f (encode i)) ∨ (firstFault checks = none ∧ body s = some t) := by
  unfold guarded
  split
  · rename_i f hf
    simp [hf, eq_comm]
  · rename_i hf
    cases hb : body s <;> simp [hf, finish]

/-- A guarded command whose checks pass is its body. -/
theorem guarded_pass {i : Instr} {checks : List (Option FaultCode)} {body : State → Option State} {s : State}
    (h : ∀ c ∈ checks, c = none) : guarded i checks body s = finish (body s) := by
  simp [guarded, firstFault_eq_none.2 h]

end Sys2Proof.Machine
end

