-- ==== Sys2Proof/Laws/PerInstr.lean ====
section
/-! SUPPORT. Families of statements about every command as syntax, one lemma a constructor. `MatchMask`: the word of a
command meets the match and mask of R96's last paragraph. -/

namespace Sys2Proof.Laws

open Sys2Proof

/-- The bits of a word that an opcode does not fix and a mask leaves out. -/
theorem packWord_and_lowHalf (op : BitVec 8) (imm : BitVec 16) :
    packWord op 0 imm &&& 0x0000FFFF = op.setWidth 32 := by
  apply BitVec.eq_of_toNat_eq
  have h1 : (0x0000FFFF : Word).toNat = 2 ^ 16 - 1 := by decide
  have h2 := op.isLt
  rw [BitVec.toNat_and, h1, Nat.and_two_pow_sub_one_eq_mod, packWord_toNat, BitVec.toNat_setWidth]
  simp
  omega

/-- The word of a command under its format's mask is its opcode (R96). -/
def MatchMask.Statement (i : Instr) : Prop := encode i &&& i.format.mask = i.opcode.setWidth 32

theorem MatchMask.nop : MatchMask.Statement .nop := by unfold MatchMask.Statement; decide
theorem MatchMask.abort : MatchMask.Statement .abort := by unfold MatchMask.Statement; decide
theorem MatchMask.clrf : MatchMask.Statement .clrf := by unfold MatchMask.Statement; decide
theorem MatchMask.seed : MatchMask.Statement .seed := by unfold MatchMask.Statement; decide
theorem MatchMask.next : MatchMask.Statement .next := by unfold MatchMask.Statement; decide
theorem MatchMask.filln : MatchMask.Statement .filln := by unfold MatchMask.Statement; decide
theorem MatchMask.dup : MatchMask.Statement .dup := by unfold MatchMask.Statement; decide
theorem MatchMask.presc : MatchMask.Statement .presc := by unfold MatchMask.Statement; decide
theorem MatchMask.sview : MatchMask.Statement .sview := by unfold MatchMask.Statement; decide
theorem MatchMask.stepc : MatchMask.Statement .stepc := by unfold MatchMask.Statement; decide
theorem MatchMask.steps : MatchMask.Statement .steps := by unfold MatchMask.Statement; decide
theorem MatchMask.vscale : MatchMask.Statement .vscale := by unfold MatchMask.Statement; decide
theorem MatchMask.enc (dt : Tag) : MatchMask.Statement (.enc dt) := by
  revert dt; unfold MatchMask.Statement; decide
theorem MatchMask.dec (dt : Tag) : MatchMask.Statement (.dec dt) := by
  revert dt; unfold MatchMask.Statement; decide
theorem MatchMask.sigma (i : Nat) : MatchMask.Statement (.sigma i) := packWord_and_lowHalf _ _
theorem MatchMask.delta (i : Nat) : MatchMask.Statement (.delta i) := packWord_and_lowHalf _ _
theorem MatchMask.tstep (i : Nat) : MatchMask.Statement (.tstep i) := packWord_and_lowHalf _ _

end Sys2Proof.Laws
end

