-- ==== Sys2Proof/Laws/Step.lean ====
section
/-! SUPPORT. What one step does with the input it takes; the host's accesses in the words of the statements. -/

namespace Sys2Proof.Machine

open Sys2Proof

/-- A step with an input to come takes that input. -/
theorem step_of_inputs {s : State} {x : Input} {rest : List Input} (h : s.inputs = x :: rest) :
    step s = takeInput x (s.popInput rest) := by
  simp [step, h]

/-- A step on a command word is its dispatch (R60, R281). -/
theorem step_of_commandInput {s : State} {w : Word} {rest : List Input} (h : s.inputs = commandInput w :: rest) :
    step s = hostCommand w (s.popInput rest) := by
  rw [step_of_inputs h]
  simp [commandInput, takeInput, hostWriteReg, regOfNumber, Reg.access, fits, Reg.width]
  omega

/-! The host's register primitives, once the number names a register. -/

theorem hostWriteReg_of_rw {no : Nat} {r : Reg} {v : Dword} {s : State} (h : regOfNumber no = some r)
    (ha : r.access = .rw) (hv : v.toNat < 2 ^ r.width) : hostWriteReg no v s = .next (s.writeReg r v) := by
  have hc : r ≠ .cmd := by rintro rfl; cases ha
  simp [hostWriteReg, h, ha, fits, hv, hc]

theorem hostReadReg_of_readable {no : Nat} {r : Reg} {s : State} (h : regOfNumber no = some r) (ha : r.access ≠ .w) :
    hostReadReg no s = .next { s with reply := some (s.readReg r) } := by
  simp [hostReadReg, h, ha]

/-- A register reads as what was written to it. -/
theorem State.readReg_writeReg {r : Reg} {v : Dword} {s : State} (ha : r.access = .rw) (hv : v.toNat < 2 ^ r.width) :
    (s.writeReg r v).readReg r = v := by
  have fit (w : Nat) (hw : v.toNat < 2 ^ w) : (v.setWidth w).setWidth 64 = v :=
    BitVec.eq_of_toNat_eq (by simp [Nat.mod_eq_of_lt hw, Nat.mod_eq_of_lt v.isLt])
  cases r <;> first | (cases ha; done) | exact fit _ hv

@[simp] theorem State.readReg_popInput (r : Reg) (rest : List Input) (s : State) :
    (s.popInput rest).readReg r = s.readReg r := by
  cases r <;> rfl

/-- A row of the statements' write table is an RW register of the map, its width, and its write. -/
theorem registerWrites_reg {t u : State} {v : Dword} {no width : Nat} (h : (no, width, u) ∈ registerWrites t v) :
    ∃ r, regOfNumber no = some r ∧ r.access = .rw ∧ r.width = width ∧ t.writeReg r v = u := by
  simp only [registerWrites, List.mem_cons, Prod.mk.injEq, List.not_mem_nil, or_false] at h
  repeat' refine Or.elim h (fun h => ?_) fun h => ?_
  all_goals obtain ⟨rfl, rfl, rfl⟩ := h; exact ⟨_, rfl, rfl, rfl, rfl⟩

/-- A row of the statements' read table is a register of the map that the host may read, and its contents. -/
theorem registerReads_reg {s : State} {value : Dword} {no : Nat} (h : (no, value) ∈ registerReads s) :
    ∃ r, regOfNumber no = some r ∧ r.access ≠ .w ∧ s.readReg r = value := by
  simp only [registerReads, List.mem_cons, Prod.mk.injEq, List.not_mem_nil, or_false] at h
  repeat' refine Or.elim h (fun h => ?_) fun h => ?_
  all_goals obtain ⟨rfl, rfl⟩ := h; exact ⟨_, rfl, nofun, rfl⟩

/-! The memories in the words of the statements. -/

@[simp] theorem State.writeElem_inputs (m : MemName) (i : Nat) (v : Dword) (s : State) :
    (s.writeElem m i v).inputs = s.inputs := by
  rcases m with b | t
  · cases b <;> rfl
  · cases t <;> rfl

@[simp] theorem State.writeElem_hw (m : MemName) (i : Nat) (v : Dword) (s : State) : (s.writeElem m i v).hw = s.hw := by
  rcases m with b | t
  · cases b <;> rfl
  · cases t <;> rfl

@[simp] theorem elementOf_popInput (rest : List Input) (s : State) (m : MemName) (i : Nat) :
    elementOf (s.popInput rest) m i = elementOf s m i := by
  rcases m with b | t
  · cases b <;> rfl
  · cases t <;> rfl

@[simp] theorem memSize_eq_elementCount (h : Hardware) (m : MemName) : memSize h m = elementCount h m := by
  rcases m with b | t
  · cases b <;> rfl
  · cases t <;> rfl

/-- A byte appended below a bit vector. -/
theorem toNat_append_byte {n : Nat} (x : BitVec n) (y : Byte) : (x ++ y).toNat = 256 * x.toNat + y.toNat := by
  rw [BitVec.toNat_append, ← Nat.shiftLeft_add_eq_or_of_lt y.isLt, Nat.shiftLeft_eq, Nat.mul_comm]

/-- A halfword element by its bytes is the element the commands read. -/
theorem halfAt_eq (m : Memory) (i : Nat) : halfAt m i = (BitVec.ofNat 16 (m.readLE (elemAddr 2 i) 2)).setWidth 64 := by
  apply BitVec.eq_of_toNat_eq
  rw [halfAt, BitVec.toNat_setWidth, toNat_append_byte]
  simp only [Memory.readLE, elemAddr, BitVec.toNat_setWidth, BitVec.toNat_ofNat]
  omega

/-- A schedule element by its bytes is the element the commands read. -/
theorem dwordAt_eq (m : Memory) (i : Nat) : dwordAt m i = BitVec.ofNat 64 (m.readLE (elemAddr 8 i) 8) := by
  apply BitVec.eq_of_toNat_eq
  rw [dwordAt]
  iterate 7 rw [toNat_append_byte]
  simp only [Memory.readLE, elemAddr, BitVec.toNat_ofNat, Nat.add_assoc, Nat.reduceAdd]
  omega

/-- The element of a statement is the element the host reads. -/
theorem elementOf_eq_readElem (s : State) (m : MemName) (i : Nat) : elementOf s m i = s.readElem m i := by
  rcases m with b | t
  · cases b <;> exact halfAt_eq _ _
  · cases t <;> exact dwordAt_eq _ _

/-- A write of one element leaves everything but its memory. -/
theorem State.writeElem_sameButMemory (m : MemName) (i : Nat) (v : Dword) (s : State) :
    sameButMemory m s (s.writeElem m i v) := by
  rcases m with b | t
  · cases b <;> rfl
  · cases t <;> rfl

/-- The element after a write reads as the value, every other element as before. -/
theorem State.readElem_writeElem {m : MemName} {i : Nat} {v : Dword} {s : State} (m' : MemName) (j : Nat)
    (hs : s.MemoryOk) (hv : v.toNat < 2 ^ memWidth m) :
    (s.writeElem m i v).readElem m' j = if (m', j) = (m, i) then v else s.readElem m' j := by
  rcases m with b | t <;> rcases m' with b' | t'
  · have hfit : (v.setWidth 16).setWidth 64 = v := BitVec.eq_of_toNat_eq (by
      simp only [memWidth] at hv
      simp only [BitVec.toNat_setWidth]
      omega)
    by_cases hb : b' = b ∧ j = i
    · simp [readElem, writeElem, State.half_setBuf_putHalf _ _ (hs.bufs b).1, hb, hfit]
    · simp [readElem, writeElem, State.half_setBuf_putHalf _ _ (hs.bufs b).1, hb]
  · simp [readElem, writeElem, State.dword]
  · simp [readElem, writeElem, State.half]
  · by_cases ht : t' = t
    · subst ht
      simp [readElem, writeElem, State.dword, Memory.dword_putDword _ _ _ (hs.scheds t').1]
    · simp [readElem, writeElem, State.dword, State.setSched_sched_ne _ _ _ _ ht, ht]

end Sys2Proof.Machine
end

