-- ==== Sys2Proof/Tests/Slice0.lean ====
section
/-! SUPPORT. The model's own tests. Expected results come from spec/95_test_vectors.md (V<n>, T<n>) or are worked by hand
from the rule cited. `test_witness_<Name>` shows concrete operands that meet the hypotheses of the statement `<Name>`, one
for each of its clauses, at the ends of their ranges. -/

set_option Elab.async false

namespace Sys2Proof.Tests

open Sys2Proof Sys2Proof.Machine

/-! ## WellFormed: each check refuses an ill-formed term -/

theorem test_wellFormed_sigma : (Instr.sigma 65535).wellFormed = true ∧ (Instr.sigma 65536).wellFormed = false := by decide
theorem test_wellFormed_delta : (Instr.delta 65535).wellFormed = true ∧ (Instr.delta 65536).wellFormed = false := by decide
theorem test_wellFormed_tstep : (Instr.tstep 0).wellFormed = true ∧ (Instr.tstep 131072).wellFormed = false := by decide

/-! ## Decoding: words written out from R96's table and R90's fields -/

theorem test_decode_control :
    (decode 0x00000000).toOption = some .nop ∧ (decode 0x00000001).toOption = some .abort ∧
    (decode 0x00000002).toOption = some .clrf := by decide +kernel
/-- R95: `0x00000t10`, `0x00000t11`; every tag decodes (R98). -/
theorem test_decode_codec :
    (decode 0x00000110).toOption = some (.enc 1) ∧ (decode 0x00000F10).toOption = some (.enc 15) ∧
    (decode 0x00000111).toOption = some (.dec 1) ∧ (decode 0x00000011).toOption = some (.dec 0) := by decide +kernel
theorem test_decode_prng :
    (decode 0x00000020).toOption = some .seed ∧ (decode 0x00000021).toOption = some .next := by decide +kernel
theorem test_decode_latent :
    (decode 0x00000030).toOption = some .filln ∧ (decode 0x00000031).toOption = some .dup ∧
    (decode 0x00000032).toOption = some .presc ∧ (decode 0x00000033).toOption = some .sview ∧
    (decode 0x00000034).toOption = some .stepc ∧ (decode 0x00000035).toOption = some .steps ∧
    (decode 0x00000036).toOption = some .vscale := by decide +kernel
/-- R94: the index is bits 31:16, unsigned. -/
theorem test_decode_schedule :
    (decode 0x00030040).toOption = some (.sigma 3) ∧ (decode 0xFFFF0040).toOption = some (.sigma 65535) ∧
    (decode 0x00010041).toOption = some (.delta 1) ∧ (decode 0x00180042).toOption = some (.tstep 24) := by decide +kernel
/-- R97, R98: V130, V132, V133, V162, V168, and a nonzero `dt` in format I. -/
theorem test_decode_illegal :
    decode 0x00000137 = .error .undefinedOpcode ∧ decode 0x00001010 = .error .nonzeroZero ∧
    decode 0x00010110 = .error .nonzeroImm ∧ decode 0x00000102 = .error .nonzeroTag ∧
    decode 0x00010000 = .error .nonzeroImm ∧ decode 0x00000140 = .error .nonzeroTag := by
  refine ⟨?_, ?_, ?_, ?_, ?_, ?_⟩ <;> rfl
theorem test_decodeTableWord :
    decodeTableWord 32 0x00020042 = some (.tstep 2) ∧ decodeTableWord 8 0x36 = some .vscale := by decide +kernel

/-! ## The small states the tests run from -/

/-- A block with `E_MAX = 2`, `N_MAX = 4` and the default functions. -/
def smallHw : Hardware := { eMax := 2, nMax := 4, prngStep := standardPrng, reals := .correctlyRounded }

/-- Values written into a memory from element `i` on. -/
def fill (m : MemName) : Nat → List Dword → State → State
  | _, [], s => s
  | i, v :: l, s => fill m (i + 1) l (s.writeElem m i v)

/-- After reset, with `E = 2 = E_MAX` and `N = 2`. -/
def start : State := { State.reset with hw := smallHw, niter := 2, latC := 1, latH := 1, latW := 2 }

/-- Schedule B of spec/95, the latent of V91 and V92, and a run at its first iteration. -/
def running : State :=
  { fill (.sched .sigma) 0 [0x402D000000000000, 0x4026800000000000, 0]
      (fill (.sched .ts) 0 [0x408DEB0000000000, 0x408A040000000000]
        (fill (.buf .lat) 0 [0x5425, 0xD28D] start)) with ivalid := true }

/-- The predictions of V103 and V104 in both layouts, with the descriptors of both. -/
def stepping : State :=
  { fill (.buf .pred) 0 [0x3555, 0x2E66, 0xB599, 0x3C00]
      (fill (.buf .predp) 0 [0x3555, 0x2E66] (fill (.buf .predn) 0 [0xB599, 0x3C00] running)) with
    predDesc := { dt := 1, dim0 := 2, dim1 := 1, dim2 := 1, dim3 := 2 }
    predpDesc := { dt := 1, dim0 := 1, dim1 := 1, dim2 := 1, dim3 := 2 }
    prednDesc := { dt := 1, dim0 := 1, dim1 := 1, dim2 := 1, dim3 := 2 } }

/-- A block that has recorded a fault (V160 to V163). -/
def faulted : State := { start with fault := .shapeMismatch, fcmd := 0x34 }

/-- What the tests look at: the next state of a command, if there is one. -/
def nextOf : Host.Outcome State Fault Refusal → Option State
  | .next s => some s
  | .fault _ => none
  | .refused _ => none

/-- A field of a command's next state. -/
def after {α : Type} (i : Instr) (s : State) (f : State → α) : Option α := (nextOf (exec i s)).map f

/-- A field of the state after one input. -/
def afterInput {α : Type} (x : Input) (s : State) (f : State → α) : Option α :=
  (nextOf (step { s with inputs := [x] })).map f

/-- `STATUS` and `FCMD`. -/
def record (s : State) : Word × Word := (s.statusWord, s.fcmd)

theorem start_memoryOk : start.MemoryOk := by
  constructor
  · intro b; cases b <;> decide +kernel
  · intro t; cases t <;> decide +kernel

theorem stepping_memoryOk : stepping.MemoryOk := by
  constructor
  · intro b; cases b <;> decide +kernel
  · intro t; cases t <;> decide +kernel

/-! ## One step of each command -/

/-- V167. -/
theorem test_nop : after .nop running record = some (0x00000010, 0) := by decide +kernel
/-- V165. -/
theorem test_abort : after .abort { running with iter := 1 } record = some (0x00000000, 0) := by decide +kernel
/-- V163. -/
theorem test_clrf : afterInput (commandInput 0x00000002) faulted record = some (0, 0) := by decide +kernel
/-- V8: just above a tie. -/
theorem test_enc_up : after (.enc 1) { start with opa := 0x3F801001 } State.res = some 0x3C01 := by decide +kernel
/-- V36: a tie whose carry promotes a denormal. -/
theorem test_enc_carry : after (.enc 1) { start with opa := 0x387FE000 } State.res = some 0x0400 := by decide +kernel
/-- V51: the upper half of `OPA` is ignored. -/
theorem test_dec_normal : after (.dec 1) { start with opa := 0xFFFF3555 } State.res = some 0x3EAAA000 := by decide +kernel
/-- V48. -/
theorem test_dec_denormal : after (.dec 1) { start with opa := 0x000003FF } State.res = some 0x387FC000 := by decide +kernel
/-- R172: the seed words in order. -/
theorem test_seed : after .seed { start with seed0 := 1, seed1 := 2, seed2 := 3, seed3 := 4 } State.prng =
    some { a := 1, b := 2, c := 3, d := 4 } := by decide +kernel
/-- spec/95 section 2.3, seed 123465, draw 2. -/
theorem test_next : after .next { start with prng := { a := 0, b := 0x0010F49A, c := 0x4940003E, d := 2 } }
    (fun s => (s.res, s.prng)) =
    some (0x3F30F49D00000000, { a := 0x0010FCE0, b := 0x9340022E, c := 0x07DA1C9D, d := 3 }) := by decide +kernel
/-- V60, its first two elements (R189: the first elements do not depend on `E`). -/
theorem test_filln : after .filln { start with seed0 := 0x0001E249 } (fun s => (s.half .lat 0, s.half .lat 1, s.prng.d)) =
    some (0x4493, 0xC33B, 4) := by decide +kernel
/-- V64: the zero draw. -/
theorem test_filln_zero_draw : after .filln { start with seed3 := 0xFFFFFFFF } (fun s => (s.half .lat 0, s.half .lat 1)) =
    some (0x7C00, 0x468E) := by decide +kernel
/-- R217. -/
theorem test_dup : after .dup running (fun s => (s.half .lat 0, s.half .lat 2, s.half .lat 3)) =
    some (0x5425, 0x5425, 0xD28D) := by decide +kernel
/-- V91 and V92. -/
theorem test_presc : after .presc (fill (.buf .lat) 0 [0x4493, 0xC33B] running)
    (fun s => (s.half .lat 0, s.half .lat 1, s.statusWord)) = some (0x5425, 0xD28D, 0x00000010) := by decide +kernel
/-- V98: `Inf * 0`. -/
theorem test_presc_nan : after .presc (fill (.buf .lat) 0 [0x7C00] (fill (.sched .sigma) 0 [0] running))
    (fun s => s.half .lat 0) = some 0x7E00 := by decide +kernel
/-- V113 and V114, in both slots. -/
theorem test_sview : after .sview running (fun s => (s.half .scr 0, s.half .scr 1, s.half .scr 2, s.half .scr 3)) =
    some (0x4490, 0xC336, 0x4490, 0xC336) := by decide +kernel
/-- V138. -/
theorem test_sview_undefined : after .sview { running with ivalid := false } record = some (3, 0x33) := by decide +kernel
/-- V103 and V104. -/
theorem test_stepc : after .stepc stepping (fun s => (s.half .lat 0, s.half .lat 1, s.statusWord)) =
    some (0x525A, 0xD037, 0x00010010) := by decide +kernel
/-- V135: the dtype fault comes first. -/
theorem test_stepc_priority : after .stepc
    { stepping with predDesc := { dt := 0, dim0 := 2, dim1 := 1, dim2 := 2, dim3 := 1 }, ivalid := false } record =
    some (2, 0x34) := by decide +kernel
/-- V103 and V104, in the split layout. -/
theorem test_steps : after .steps stepping (fun s => (s.half .lat 0, s.half .lat 1, s.statusWord)) =
    some (0x525A, 0xD037, 0x00010010) := by decide +kernel
/-- R231: the extents are compared one by one, though the element counts agree. -/
theorem test_steps_shape : after .steps
    { stepping with prednDesc := { dt := 1, dim0 := 1, dim1 := 1, dim2 := 2, dim3 := 1 } } record = some (1, 0x35) := by
  decide +kernel
/-- V147 and V149: the last finite quotient, and the first that overflows, negative. -/
theorem test_vscale : after .vscale (fill (.buf .lat) 0 [0x71D3, 0xF1D4] start) (fun s => (s.half .out 0, s.half .out 1)) =
    some (0x7BFE, 0xFC00) := by decide +kernel
/-- V72's index, `sigma(N)`, on schedule B. -/
theorem test_sigma : after (.sigma 2) { running with res := 1 } State.res = some 0 := by decide +kernel
/-- V73. -/
theorem test_sigma_exhausted : after (.sigma 3) { running with res := 7 } (fun s => (record s, s.res)) =
    some ((3, 0x00030040), 7) := by decide +kernel
/-- V82. -/
theorem test_delta : after (.delta 0) running State.res = some 0xC00A000000000000 := by decide +kernel
/-- V81: a tie away from zero. -/
theorem test_tstep : after (.tstep 1) running State.res = some 833 := by decide +kernel
/-- V87: -2.5 gives -3, sign-extended. -/
theorem test_tstep_negative : after (.tstep 0) (fill (.sched .ts) 0 [0xC004000000000000] running) State.res =
    some 0xFFFFFFFFFFFFFFFD := by decide +kernel
/-- V130. -/
theorem test_undefined_opcode : afterInput (commandInput 0x00000137) start record = some (4, 0x137) := by decide +kernel
/-- V160: ignored. -/
theorem test_faulted_ignores : afterInput (commandInput 0x00000036) faulted record = some (1, 0x34) := by decide +kernel

/-! ## Witnesses: operands that meet a statement's hypotheses -/

theorem test_witness_DecodeInvertsEncode :
    (Instr.sigma 0).wellFormed = true ∧ (Instr.tstep 65535).wellFormed = true ∧ (Instr.enc 15).wellFormed = true := by decide

theorem test_witness_EncodeInvertsDecode :
    decode 0x00000036 = .ok .vscale ∧ decode 0x00000F11 = .ok (.dec 15) ∧ decode 0xFFFF0041 = .ok (.delta 65535) :=
  ⟨rfl, rfl, rfl⟩

theorem test_witness_WordsOfTheOpcodeMap : (Instr.nop, (0x00000000 : Word)) ∈ [(Instr.nop, (0x00000000 : Word))] ∧
    65535 < 65536 := by decide

/-- A state with one command word to come. -/
def given (s : State) (w : Word) : State := { s with inputs := [commandInput w] }

theorem test_witness_UndefinedOpcodeRaisesIllegalCommand : (given start 0x00000003).fault = .noFault ∧
    (given start 0x00000003).inputs = commandInput 0x00000003 :: [] ∧
    (opField 0x00000003).toNat ∉ opcodesZ ++ opcodesT ++ opcodesI ∧
    (opField 0x000000FF).toNat ∉ opcodesZ ++ opcodesT ++ opcodesI := by
  refine ⟨rfl, rfl, ?_, ?_⟩ <;> decide +kernel

/-- Each field that must be zero at 1, the opcodes at the ends of their formats; the tags 0, 1, 2 and 15. -/
theorem test_witness_NonzeroMustBeZeroFieldRaisesIllegalCommand :
    (zeroField 0x00001000 ≠ 0 ∧ (opField 0x00001000).toNat ∈ opcodesZ) ∧
    (immField 0x00010036 ≠ 0 ∧ (opField 0x00010036).toNat ∈ opcodesZ) ∧
    (immField 0x00010110 ≠ 0 ∧ (opField 0x00010110).toNat ∈ opcodesT) ∧
    (tagField 0x00000142 ≠ 0 ∧ (opField 0x00000142).toNat ∈ opcodesI) ∧
    ((opField 0x00000111).toNat ∈ opcodesT ∧ zeroField 0x00000111 = 0 ∧ immField 0x00000111 = 0 ∧
      tagField 0x00000111 = 1 ∧ opField 0x00000111 = 0x11 ∧ tagField 0x00000110 = 1 ∧ opField 0x00000110 = 0x10) ∧
    (tagField 0x00000010 = 0 ∧ tagField 0x00000211 = 2 ∧ tagField 0x00000F10 = 15 ∧
      (opField 0x00000F10).toNat ∈ opcodesT ∧ zeroField 0x00000F10 = 0 ∧ immField 0x00000F10 = 0) := by decide +kernel

theorem test_witness_DispatchOfACommandWord :
    (given faulted 0x00000002).fault ≠ .noFault ∧ (given faulted 0x00000102).fault ≠ .noFault ∧
    (0x00000102 : Word) ≠ 0x00000002 ∧ (given start 0x00000102).fault = .noFault ∧ illegalWord 0x00000102 ∧
    decode 0x00000032 = .ok .presc :=
  ⟨by decide, by decide, by decide, rfl, ⟨_, rfl⟩, rfl⟩

theorem test_witness_FaultsDoNotNest : (given faulted 0x00000137).fault ≠ .noFault ∧
    step (given faulted 0x00000137) = .next { faulted with inputs := [], reply := none } := ⟨by decide, rfl⟩

/-- A command that faults, from a state without a fault: `ENC #2`. -/
theorem test_witness_FaultsArePrecise : start.fault = .noFault ∧
    exec (.enc 2) start = .next { start with fault := .unsupportedDType, fcmd := 0x00000210, ivalid := false, iter := 0 } ∧
    FaultCode.unsupportedDType ≠ .noFault := ⟨rfl, rfl, by decide⟩

/-- `E = 3` where `E_MAX = 2`, and a run whose checks pass. -/
theorem test_witness_ShapeMismatchExactlyWhen : start.fault = .noFault ∧
    (after .dup { start with latW := 3 } State.fault = some .shapeMismatch) ∧
    (after .dup start State.fault = some .noFault) ∧
    (after .stepc { stepping with latW := 3, predDesc := { stepping.predDesc with dim3 := 3 } } State.fault =
      some .shapeMismatch) ∧
    (after .steps { stepping with predpDesc := { stepping.predpDesc with dim0 := 2 } } State.fault =
      some .shapeMismatch) := by decide +kernel

theorem test_witness_UnsupportedDTypeExactlyWhen : start.fault = .noFault ∧
    after (.enc 0) start State.fault = some .unsupportedDType ∧ after (.dec 15) start State.fault = some .unsupportedDType ∧
    after .stepc start State.fault = some .unsupportedDType ∧
    after .steps { stepping with prednDesc := { stepping.prednDesc with dt := 2 } } State.fault = some .unsupportedDType ∧
    after (.enc 1) start State.fault = some .noFault := by decide +kernel

/-- The indices `N` and `N + 1` about each limit, `N = 2`. -/
theorem test_witness_ScheduleExhaustedExactlyWhen : start.fault = .noFault ∧
    after (.sigma 2) start State.fault = some .noFault ∧ after (.sigma 3) start State.fault = some .scheduleExhausted ∧
    after (.delta 1) start State.fault = some .noFault ∧ after (.delta 2) start State.fault = some .scheduleExhausted ∧
    after (.tstep 1) start State.fault = some .noFault ∧ after (.tstep 2) start State.fault = some .scheduleExhausted ∧
    after .sview { running with iter := 2 } State.fault = some .noFault ∧
    after .sview { running with iter := 3 } State.fault = some .scheduleExhausted ∧
    after .stepc { stepping with iter := 1 } State.fault = some .noFault ∧
    after .stepc { stepping with iter := 2 } State.fault = some .scheduleExhausted ∧
    after .steps { stepping with iter := 2 } State.fault = some .scheduleExhausted ∧
    after .steps { stepping with ivalid := false } State.fault = some .scheduleExhausted := by decide +kernel

theorem test_witness_SequencingStateTable : start.fault = .noFault ∧
    after .presc running (fun s => (s.fault, s.ivalid, s.iter)) = some (.noFault, true, 0) ∧
    after .stepc stepping (fun s => (s.fault, s.ivalid, s.iter)) = some (.noFault, true, 1) ∧
    after .abort running (fun s => (s.fault, s.ivalid, s.iter)) = some (.noFault, false, 0) ∧
    after .clrf running (fun s => (s.fault, s.ivalid, s.iter)) = some (.noFault, true, 0) ∧
    after .stepc running State.fault = some .unsupportedDType := by decide +kernel

/-- One command that writes each state named, and one that does not. -/
theorem test_witness_CommandsWriteOnlyTheirOwnState :
    exec .seed start = .next { start with prng := { a := 0, b := 0, c := 0, d := 0 } } ∧
    Instr.nop ∉ [Instr.seed, .next, .filln] ∧ Instr.sview ∉ [Instr.filln, .dup, .presc, .stepc, .steps] ∧
    Instr.vscale ≠ .sview ∧ Instr.sview ≠ .vscale := by
  refine ⟨rfl, ?_, ?_, ?_, ?_⟩ <;> decide

theorem test_witness_ResIsSharedBySixCommands : start.fault = .noFault ∧
    exec (.enc 1) { start with opa := 0x3F800000 } = .next { start with opa := 0x3F800000, res := 0x3C00 } ∧
    (0x3C00 : Dword) ≠ start.res := by
  refine ⟨rfl, ?_, by decide +kernel⟩
  rfl

theorem test_witness_NopWritesNothing : (given faulted 0x00000000).inputs = commandInput 0x00000000 :: [] := rfl

theorem test_witness_AbortClearsTheRun : (given faulted 0x00000001).fault ≠ .noFault ∧
    (given faulted 0x00000001).inputs = commandInput 0x00000001 :: [] ∧
    exec .abort running = .next { running with ivalid := false, iter := 0 } ∧
    running.latC.toNat * running.latH.toNat * running.latW.toNat = running.hw.eMax := by
  refine ⟨by decide, rfl, rfl, by decide +kernel⟩

theorem test_witness_ClrfClearsTheFaultRecord : (given faulted 0x00000002).inputs = commandInput 0x00000002 :: [] ∧
    (given faulted 0x00000003).inputs = commandInput 0x00000003 :: [] ∧ (0x00000003 : Word) ≠ 0x00000002 ∧
    (given faulted 0x00000003).fault ≠ .noFault := ⟨rfl, rfl, by decide, by decide⟩

/-- The tags next to 1, and the illegal words with each field at 1. -/
theorem test_witness_EncEncodesOpa : (0 : Tag) ≠ 1 ∧ (2 : Tag) ≠ 1 ∧ (15 : Tag) ≠ 1 ∧
    opField 0x00001110 = 0x10 ∧ zeroField 0x00001110 ≠ 0 ∧ opField 0x00010110 = 0x10 ∧ immField 0x00010110 ≠ 0 := by
  decide +kernel

theorem test_witness_DecDecodesOpa : (0 : Tag) ≠ 1 ∧ (15 : Tag) ≠ 1 ∧ opField 0x00001111 = 0x11 ∧
    zeroField 0x00001111 ≠ 0 ∧ opField 0x00010111 = 0x11 ∧ immField 0x00010111 ≠ 0 ∧
    (0xFFFF3555 : Word) = (0xFFFF : Half) ++ (0x3555 : Half) := by decide +kernel

theorem test_witness_EncodeIsTheNearestHalf : val32 0x3F800000 = .fin false (2 ^ 149) ∧
    val32 0x00000000 = .fin false 0 ∧ val32 0x7F800000 = .inf false ∧ val32 0xFF800000 = .inf true ∧
    val32 0x7F800001 = .nan ∧ val32 0xFFFFFFFF = .nan := by decide +kernel

/-- Both ends of every range of R152. -/
theorem test_witness_EncodeThresholds : val32 0x33000000 = .fin false (2 ^ 124) ∧
    val32 0x33000001 = .fin false (2 ^ 124 + 2 ^ 101) ∧ val32 0x33BFFFFF = .fin false (3 * 2 ^ 124 - 2 ^ 102) ∧
    val32 0x33C00000 = .fin false (3 * 2 ^ 124) ∧ val32 0x387FDFFF = .fin false (2047 * 2 ^ 124 - 2 ^ 111) ∧
    val32 0x387FE000 = .fin false (2047 * 2 ^ 124) ∧ val32 0x387FFFFF = .fin false (2 ^ 135 - 2 ^ 111) ∧
    val32 0x38800000 = .fin false (2 ^ 135) ∧ val32 0x477FE001 = .fin false (65504 * 2 ^ 149 + 2 ^ 141) ∧
    val32 0x477FEFFF = .fin false (65520 * 2 ^ 149 - 2 ^ 141) ∧ val32 0x477FF000 = .fin false (65520 * 2 ^ 149) ∧
    val32 0xFF800000 = .inf true ∧ val32 0x7FC00000 = .nan := by decide +kernel

theorem test_witness_EncodeProperties : start.fault = .noFault ∧
    exec (.enc 1) start = .next { start with res := 0 } ∧ val32 0x7F800001 = .nan ∧
    (val32 0xFF800000 = .inf true ∧ val32 0x33000001 = .fin false (2 ^ 124 + 2 ^ 101)) ∧
    val16 0x7C00 ≠ .nan ∧ val16 0x7C01 = .nan ∧ notAbove (.inf true) (.fin false 1) := by
  refine ⟨rfl, rfl, ?_, ?_, ?_, ?_, rfl⟩ <;> decide +kernel

theorem test_witness_DecodeIsExact : val16 0x0001 = .fin false 1 ∧ val16 0x03FF = .fin false 1023 ∧
    val16 0xFBFF = .fin true (65504 * 2 ^ 24) ∧ val16 0x7C00 = .inf false ∧ val16 0x7C01 = .nan ∧ val16 0xFFFF = .nan := by
  decide +kernel

theorem test_witness_CodecRoundTrip :
    (val32 0x33800000 = .fin false (2 ^ 125) ∧ val16 0x0001 = .fin false 1 ∧ sameValue (.fin false (2 ^ 125)) (.fin false 1)) ∧
    (val32 0xFF800000 = .inf true ∧ val16 0xFC00 = .inf true ∧ sameValue (.inf true) (.inf true)) ∧
    val32 0x3DCCCCCD = .fin false (0xCCCCCD * 2 ^ 122) ∧ val32 0x7F7FFFFF = .fin false (0xFFFFFF * 2 ^ 253) := by
  refine ⟨⟨?_, ?_, ⟨rfl, ?_⟩⟩, ⟨?_, ?_, rfl⟩, ?_, ?_⟩ <;> decide +kernel

theorem test_witness_NaNAndInfinityThroughTheCodec : val32 0x7F800001 = .nan ∧ val32 0xFFFFFFFF = .nan ∧
    val32 0x7F800000 = .inf false ∧ val16 0x7C01 = .nan ∧ val16 0xFC00 = .inf true := by decide +kernel

theorem test_witness_SeedLoadsThePrngFile : exec .seed { start with seed0 := 5 } =
    .next { start with seed0 := 5, prng := { a := 5, b := 0, c := 0, d := 0 } } := rfl

/-- `E = 3` beyond `E_MAX = 2`; `E = 2` at it; and the empty shape. -/
theorem test_witness_FillnFillsSlotZeroInOrder : start.MemoryOk ∧
    ({ start with latW := 3 } : State).hw.eMax < 1 * 1 * 3 ∧ start.latC.toNat * start.latH.toNat * start.latW.toNat = 2 ∧
    start.hw.eMax = 2 ∧ (1 < 2 ∧ outsideHalves 0 2 4) :=
  ⟨start_memoryOk, by decide, by decide +kernel, rfl, by decide, fun k hk => by simp only [elemAddr]; omega⟩

theorem test_witness_ZeroDrawGivesAnInfinity :
    val64 (cos64 .correctlyRounded (fmul64 0x401921FB54442D18 0)) = .fin false (2 ^ 1074) ∧
    val64 (cos64 .correctlyRounded (fmul64 0x401921FB54442D18 (unit 0x80000000))) = .fin true (2 ^ 1074) := by decide +kernel

theorem test_witness_SigmaReadsTheSchedule : opField 0x00001040 = 0x40 ∧ zeroField 0x00001040 ≠ 0 ∧
    tagField 0x00000140 ≠ 0 ∧ min running.niter.toNat running.hw.nMax = 2 ∧ 2 < 3 ∧ 2 ≤ 2 := by decide +kernel

theorem test_witness_DeltaSubtractsNeighbours : opField 0x00001041 = 0x41 ∧ zeroField 0x00001041 ≠ 0 ∧
    tagField 0x00000141 ≠ 0 ∧ min running.niter.toNat running.hw.nMax = 2 ∧ 2 ≤ 2 ∧ 1 < 2 ∧
    start.dword .sigma 2 = start.dword .sigma 1 ∧ val64 (start.dword .sigma 1) = .fin false 0 := by decide +kernel

/-- A representable timestep; the largest and smallest that are; a NaN. -/
theorem test_witness_TstepRoundsTheTimestep : opField 0x00001042 = 0x42 ∧ zeroField 0x00001042 ≠ 0 ∧
    tagField 0x00000142 ≠ 0 ∧ min running.niter.toNat running.hw.nMax = 2 ∧ 2 ≤ 2 ∧ 1 < 2 ∧
    roundAway (running.dword .ts 1) = some 833 ∧
    roundAway ((fill (.sched .ts) 1 [0x7FF8000000000000] running).dword .ts 1) = none := by decide +kernel

/-- `-2^63` is representable and `2^63` is not. -/
theorem test_witness_RoundAwayIsNearestAwayFromZero : val64 0xC3E0000000000000 = .fin true (2 ^ 63 * 2 ^ 1074) ∧
    val64 0x43E0000000000000 = .fin false (2 ^ 63 * 2 ^ 1074) ∧ val64 0x3FE0000000000000 = .fin false (2 ^ 1073) ∧
    val64 0x7FF0000000000000 = .inf false ∧ val64 0x7FF8000000000000 = .nan := by decide +kernel

/-- The slots of a full latent, their first and last elements, and the bytes next to them. -/
theorem test_witness_DupCopiesSlotZero : running.fault = .noFault ∧ start.MemoryOk ∧
    ({ start with latC := 3 } : State).hw.eMax < 3 * 1 * 2 ∧
    start.latC.toNat * start.latH.toNat * start.latW.toNat ≤ start.hw.eMax ∧ 1 < 2 ∧
    outsideHalves 2 2 3 ∧ outsideHalves 2 2 8 :=
  ⟨rfl, start_memoryOk, by decide, by decide +kernel, by decide, fun k hk => by simp only [elemAddr]; omega,
    fun k hk => by simp only [elemAddr]; omega⟩

theorem test_witness_PrescScalesAndStartsTheRun : stepping.MemoryOk ∧
    ({ stepping with latW := 3 } : State).hw.eMax < 1 * 1 * 3 ∧
    stepping.latC.toNat * stepping.latH.toNat * stepping.latW.toNat = stepping.hw.eMax ∧ outsideHalves 0 2 4 :=
  ⟨stepping_memoryOk, by decide, by decide +kernel, fun k hk => by simp only [elemAddr]; omega⟩

/-- Both ends of the iteration index: `ITER = N = 2` runs, `ITER = 3` does not. -/
theorem test_witness_SviewBuildsTheScaledView : stepping.MemoryOk ∧ stepping.ivalid = true ∧
    stepping.latC.toNat * stepping.latH.toNat * stepping.latW.toNat = stepping.hw.eMax ∧
    min stepping.niter.toNat stepping.hw.nMax = 2 ∧
    ({ stepping with iter := 2 } : State).iter.toNat ≤ 2 ∧ 2 < ({ stepping with iter := 3 } : State).iter.toNat ∧
    ({ stepping with ivalid := false } : State).ivalid = false ∧ outsideHalves 0 4 8 :=
  ⟨stepping_memoryOk, rfl, by decide +kernel, by decide +kernel, by decide, by decide, rfl,
    fun k hk => by simp only [elemAddr]; omega⟩

/-- The tag, the extents and the capacity at their limits; `ITER = N - 1` runs, `ITER = N` does not. -/
theorem test_witness_StepcTakesOneGuidedStep : stepping.MemoryOk ∧ stepping.predDesc.dt = 0x1 ∧
    (stepping.predDesc.dim0, stepping.predDesc.dim1, stepping.predDesc.dim2, stepping.predDesc.dim3) =
      (2, stepping.latC, stepping.latH, stepping.latW) ∧
    stepping.latC.toNat * stepping.latH.toNat * stepping.latW.toNat = stepping.hw.eMax ∧ stepping.ivalid = true ∧
    min stepping.niter.toNat stepping.hw.nMax = 2 ∧ ({ stepping with iter := 1 } : State).iter.toNat < 2 ∧
    2 ≤ ({ stepping with iter := 2 } : State).iter.toNat ∧ (2 : Tag) ≠ 0x1 ∧
    ((1 : Word), stepping.latC, stepping.latH, stepping.latW) ≠ (2, stepping.latC, stepping.latH, stepping.latW) :=
  ⟨stepping_memoryOk, by decide +kernel⟩

theorem test_witness_StepsTakesOneGuidedStep : stepping.MemoryOk ∧
    stepping.predpDesc.dt = 0x1 ∧ stepping.prednDesc.dt = 0x1 ∧
    (stepping.predpDesc.dim0, stepping.predpDesc.dim1, stepping.predpDesc.dim2, stepping.predpDesc.dim3) =
      (1, stepping.latC, stepping.latH, stepping.latW) ∧
    (stepping.prednDesc.dim0, stepping.prednDesc.dim1, stepping.prednDesc.dim2, stepping.prednDesc.dim3) =
      (1, stepping.latC, stepping.latH, stepping.latW) ∧
    stepping.latC.toNat * stepping.latH.toNat * stepping.latW.toNat = stepping.hw.eMax ∧ stepping.ivalid = true ∧
    min stepping.niter.toNat stepping.hw.nMax = 2 ∧ ({ stepping with iter := 1 } : State).iter.toNat < 2 ∧
    2 ≤ ({ stepping with iter := 2 } : State).iter.toNat ∧ (0 : Tag) ≠ 0x1 ∧
    ((2 : Word), stepping.latC, stepping.latH, stepping.latW) ≠ (1, stepping.latC, stepping.latH, stepping.latW) :=
  ⟨stepping_memoryOk, by decide +kernel⟩

theorem test_witness_VscaleDividesIntoOut : stepping.MemoryOk ∧
    ({ stepping with latW := 3 } : State).hw.eMax < 1 * 1 * 3 ∧
    stepping.latC.toNat * stepping.latH.toNat * stepping.latW.toNat = stepping.hw.eMax ∧ outsideHalves 0 2 4 :=
  ⟨stepping_memoryOk, by decide, by decide +kernel, fun k hk => by simp only [elemAddr]; omega⟩

theorem test_witness_SplitStepEqualsCombinedStep :
    stepping.predDesc = { dt := 0x1, dim0 := 2, dim1 := stepping.latC, dim2 := stepping.latH, dim3 := stepping.latW } ∧
    stepping.predpDesc = { dt := 0x1, dim0 := 1, dim1 := stepping.latC, dim2 := stepping.latH, dim3 := stepping.latW } ∧
    stepping.prednDesc = { dt := 0x1, dim0 := 1, dim1 := stepping.latC, dim2 := stepping.latH, dim3 := stepping.latW } ∧
    stepping.latC.toNat * stepping.latH.toNat * stepping.latW.toNat ≤ stepping.hw.eMax ∧ stepping.ivalid = true ∧
    stepping.iter.toNat < min stepping.niter.toNat stepping.hw.nMax ∧
    ∀ k, k < 2 → stepping.half .predp k = stepping.half .pred k ∧ stepping.half .predn k = stepping.half .pred (2 + k) := by
  decide +kernel

/-- A finite negative prediction under a nonzero, an infinite and a NaN positive one, and under both zeros; an infinite
and a NaN negative one. -/
theorem test_witness_UnguidedStepIsPlainEuler : val16 0x4000 = .fin false (2 * 2 ^ 24) ∧
    val16 0x3C00 = .fin false (2 ^ 24) ∧ val16 0x7C00 = .inf false ∧ val16 0x7E00 = .nan ∧
    val16 0x0000 = .fin false 0 ∧ val16 0x8000 = .fin true 0 := by decide +kernel

/-- Another `LAT` that differs only in slot 1: its first byte, at 4. -/
theorem test_witness_LatSlotOneIsReadByNoCommand : stepping.MemoryOk ∧ (stepping.lat.put 4 7).wf ∧
    (stepping.lat.put 4 7).byte 4 ≠ stepping.lat.byte 4 ∧
    (∀ a, a < elemAddr 2 2 → (stepping.lat.put 4 7).byte a = stepping.lat.byte a) ∧
    (nextOf (exec .stepc stepping)).isSome = true ∧
    (nextOf (exec .stepc { stepping with lat := stepping.lat.put 4 7 })).isSome = true ∧ Instr.stepc ≠ .dup :=
  ⟨stepping_memoryOk, by decide +kernel⟩

/-- A tie at the smallest odd pattern of a three-bit format, and the ends of the hypotheses. -/
theorem test_witness_RoundingIsNearestEven : 1 ≤ 1 ∧ 3 ≤ 3 ∧ 0 < 2 ∧ roundUnits 1 (3 * 2 ^ 1) 3 2 = 2 ∧
    roundUnits 1 (3 * 2 ^ 1) 14 2 = 6 ∧ roundUnits 1 (3 * 2 ^ 1) 13 2 = 5 := by decide +kernel

theorem test_witness_AddMulDivRoundTheExactResultOnce : val64 0x7FF8000000000000 = .nan ∧ val64 ONE64 ≠ .nan ∧
    val64 (inf64 true) = .inf true ∧ val64 (zero64 true) = .fin true 0 ∧ val64 ONE64 = .fin false (2 ^ 1074) ∧
    val64 0x0000000000000001 = .fin false 1 ∧ val64 0x7FEFFFFFFFFFFFFF = .fin false ((2 ^ 53 - 1) * 2 ^ 2045) := by
  decide +kernel

theorem test_witness_NaNResultsAreCanonical : val64 (fadd64 (inf64 false) (inf64 true)) = .nan ∧
    val64 (fsub64 (inf64 false) (inf64 false)) = .nan ∧ val64 (fmul64 (inf64 false) 0) = .nan ∧
    val64 (fdiv64 0 0) = .nan ∧ val64 (fsqrt64 0xBFF0000000000000) = .nan ∧ val32 (narrow 0x7FF0000000000001) = .nan ∧
    val64 (ln64 .other 0xBFF0000000000000) = .nan ∧ val64 (cos64 .other (inf64 false)) = .nan := by decide +kernel

theorem test_witness_SignedZeros : val64 (zero64 true) = .fin true 0 ∧ val64 ONE64 = .fin false (2 ^ 1074) ∧
    (2 : Nat) ^ 1074 ≠ 0 ∧ val64 0xBFF0000000000000 = .fin (!false) (2 ^ 1074) := by decide +kernel

/-- The smallest and the largest positive operand, a NaN and the smallest negative one. -/
theorem test_witness_SqrtIsCorrectlyRounded : val64 0x0000000000000001 = .fin false 1 ∧
    val64 0x7FEFFFFFFFFFFFFF = .fin false ((2 ^ 53 - 1) * 2 ^ 2045) ∧ val64 0x7FF8000000000001 = .nan ∧
    val64 0x8000000000000001 = .fin true 1 := by decide +kernel

/-- Both limits of `narrow`, both ends of the normal range, an infinity and a NaN. -/
theorem test_witness_NarrowIsTheNearestBinary32 :
    val64 0x47EFFFFFF0000000 = .fin false ((2 ^ 128 - 2 ^ 103) * 2 ^ 1074) ∧ val64 0x3690000000000000 = .fin false (2 ^ 924) ∧
    ((0x3810000000000000 : Dword).extractLsb' 52 11).toNat + 126 = 1023 ∧
    ((0x47E0000000000000 : Dword).extractLsb' 52 11).toNat = 1023 + 127 ∧
    val64 0x3810000000000000 = .fin false (2 ^ 948) ∧ val64 (inf64 true) = .inf true ∧ val64 canonNaN64 = .nan := by
  decide +kernel

theorem test_witness_ComposedConversions : val16 0x0001 = .fin false 1 ∧ val16 0x7C00 = .inf false ∧ val16 0xFE00 = .nan ∧
    val16 0x3C00 ≠ .nan := by decide +kernel

/-- The operands next to 0 and to 1, and the operands of the special cases. -/
theorem test_witness_LogarithmAndCosineProperties : val64 0x0000000000000001 = .fin false 1 ∧
    val64 0x3FEFFFFFFFFFFFFF = .fin false (2 ^ 1074 - 2 ^ 1021) ∧ val64 0x8000000000000001 = .fin true 1 ∧
    val64 0x7FF8000000000000 = .nan ∧ val64 (inf64 true) = .inf true := by decide +kernel

theorem test_witness_ResetEvent : ({ stepping with inputs := [.reset, .readReg 0] } : State).inputs = .reset :: [.readReg 0] ∧
    decode 0x00000035 = .ok .steps := ⟨rfl, rfl⟩

/-- The invariant holds, in mid run and after a fault. -/
theorem test_witness_StepKeepsTheInvariant : stepping.Inv ∧ faulted.Inv ∧ step stepping = .next stepping := by
  refine ⟨⟨by decide, stepping_memoryOk, by decide, by decide, by decide⟩, ⟨by decide, ?_, by decide, by decide, by decide⟩, rfl⟩
  exact ⟨start_memoryOk.bufs, start_memoryOk.scheds⟩

/-- A register of each width at its largest value, among them the last of the map, written and read back; each read-only
register. -/
theorem test_witness_RegisterReadsBackWhatWasWritten :
    ((0x2C, 32, { start with prednDesc := { start.prednDesc with dim3 := 0xFFFFFFFF } }) ∈ registerWrites start 0xFFFFFFFF ∧
      (0xFFFFFFFF : Dword).toNat < 2 ^ 32) ∧
    ((0x0C, 16, { start with niter := 0xFFFF }) ∈ registerWrites start 0xFFFF ∧ (0xFFFF : Dword).toNat < 2 ^ 16) ∧
    ((0x18, 4, { start with predDesc := { start.predDesc with dt := 0xF } }) ∈ registerWrites start 0xF ∧
      (0xF : Dword).toNat < 2 ^ 4) ∧
    ((0x0D, 64, { start with gscale := 0xFFFFFFFFFFFFFFFF }) ∈ registerWrites start 0xFFFFFFFFFFFFFFFF ∧
      (0xFFFFFFFFFFFFFFFF : Dword).toNat < 2 ^ 64) ∧
    (0x03, start.res) ∈ registerReads start ∧ (0x0B, start.prng.d.setWidth 64) ∈ registerReads start ∧
    (0x0F, (0x34 : Dword)) ∈ registerReads faulted ∧ (0x2C, (0 : Dword)) ∈ registerReads start ∧
    ({ start with inputs := [.writeReg 0x2C 0xFFFFFFFF, .readReg 0x2C] } : State).inputs =
      .writeReg 0x2C 0xFFFFFFFF :: [.readReg 0x2C] := by decide +kernel

/-- The last element of each memory, at its largest value. -/
theorem test_witness_MemoryReadsBackWhatWasWritten : stepping.MemoryOk ∧
    (3 < elementCount stepping.hw (.buf .lat) ∧ 3 < elementCount stepping.hw (.buf .scr) ∧
      3 < elementCount stepping.hw (.buf .pred) ∧ 1 < elementCount stepping.hw (.buf .predp) ∧
      1 < elementCount stepping.hw (.buf .predn) ∧ 1 < elementCount stepping.hw (.buf .out) ∧
      4 < elementCount stepping.hw (.sched .sigma) ∧ 3 < elementCount stepping.hw (.sched .ts)) ∧
    (0xFFFF : Dword).toNat < 2 ^ 16 ∧ ((MemName.buf .lat, 2) : MemName × Nat) ≠ (MemName.buf .lat, 3) ∧
    ({ stepping with inputs := [.writeBuf (.buf .lat) 3 0xFFFF, .readBuf (.buf .lat) 3] } : State).inputs =
      .writeBuf (.buf .lat) 3 0xFFFF :: [.readBuf (.buf .lat) 3] :=
  ⟨stepping_memoryOk, by decide +kernel⟩

/-- Elements of each width by their bytes: V113 in `SCR` after `SVIEW`, and schedule B's first entry. -/
theorem test_elementOf : after .sview running (fun s => (elementOf s (.buf .scr) 3, elementOf s (.sched .sigma) 0)) =
    some (0xC336, 0x402D000000000000) := by decide +kernel

/-- The ends of each range of reserved numbers, a read-only register, and the first index past the end of each size. -/
theorem test_witness_AccessesWithoutMeaningAreRefused :
    (∀ no ∈ [0x13, 0x17, 0x1D, 0x1F, 0x25, 0x27],
      no ∈ [0x13, 0x14, 0x15, 0x16, 0x17, 0x1D, 0x1E, 0x1F, 0x25, 0x26, 0x27] ∧
      step { start with inputs := [.readReg no] } = .refused (.undefinedRegister no)) ∧
    0x2D ≤ 0x2D ∧ (0x0F ∈ [0x01, 0x03, 0x08, 0x09, 0x0A, 0x0B, 0x0F]) ∧ elementCount smallHw (.buf .lat) ≤ 4 ∧
    elementCount smallHw (.sched .sigma) ≤ 5 ∧ elementCount smallHw (.sched .ts) ≤ 4 ∧
    elementCount smallHw (.buf .out) ≤ 2 := by
  refine ⟨fun no h => ?_, ?_⟩
  · fin_cases h <;> exact ⟨by decide, rfl⟩
  · decide

theorem test_witness_StatusWordFields : ({ stepping with inputs := [.readReg 0x01] } : State).inputs = .readReg 0x01 :: [] ∧
    stepping.ivalid = true := ⟨rfl, rfl⟩

end Sys2Proof.Tests
end

