-- ==== Sys2Proof/Proofs/HostRefusals.lean ====
section
/-! The host accesses that have no meaning (R77): one rule for each of the host's four primitives and each reason to refuse. -/

namespace Sys2Proof.Machine

open Sys2Proof

/-! The reserved numbers of the register map (R34). -/

/-- The map ends at `0x2C`. -/
theorem regOfNumber_eq_none_of_le {no : Nat} (h : 0x2D ≤ no) : regOfNumber no = none := by
  obtain ⟨k, rfl⟩ := Nat.exists_eq_add_of_le' h
  rfl

/-- The gaps of the map, and every number past its end, name no register. -/
theorem regOfNumber_eq_none {no : Nat}
    (h : no ∈ [0x13, 0x14, 0x15, 0x16, 0x17, 0x1D, 0x1E, 0x1F, 0x25, 0x26, 0x27] ∨ 0x2D ≤ no) :
    regOfNumber no = none := by
  rcases h with hgap | hend
  · have gaps : ∀ n ∈ [0x13, 0x14, 0x15, 0x16, 0x17, 0x1D, 0x1E, 0x1F, 0x25, 0x26, 0x27], regOfNumber n = none := by
      decide
    exact gaps no hgap
  · exact regOfNumber_eq_none_of_le hend

/-- The numbers of the rows marked R. -/
theorem regOfNumber_readOnly {no : Nat} (h : no ∈ [0x01, 0x03, 0x08, 0x09, 0x0A, 0x0B, 0x0F]) :
    ∃ r, regOfNumber no = some r ∧ r.access = .r := by
  simp only [List.mem_cons, List.not_mem_nil, or_false] at h
  rcases h with rfl | rfl | rfl | rfl | rfl | rfl | rfl <;> exact ⟨_, rfl, rfl⟩

/-! The register primitives. -/

theorem hostWriteReg_of_undefined {no : Nat} (h : regOfNumber no = none) (v : Dword) (s : State) :
    hostWriteReg no v s = .refused (.undefinedRegister no) := by
  simp [hostWriteReg, h]

theorem hostReadReg_of_undefined {no : Nat} (h : regOfNumber no = none) (s : State) :
    hostReadReg no s = .refused (.undefinedRegister no) := by
  simp [hostReadReg, h]

theorem hostWriteReg_of_readOnly {no : Nat} {r : Reg} (h : regOfNumber no = some r) (ha : r.access = .r) (v : Dword)
    (s : State) : hostWriteReg no v s = .refused (.readOnlyRegister no) := by
  simp [hostWriteReg, h, ha]

theorem hostReadReg_of_writeOnly {no : Nat} {r : Reg} (h : regOfNumber no = some r) (ha : r.access = .w) (s : State) :
    hostReadReg no s = .refused (.writeOnlyRegister no) := by
  simp [hostReadReg, h, ha]

/-! The memory primitives. -/

theorem hostWriteBuf_of_readOnly {m : MemName} (h : memWritable m = false) (i : Nat) (v : Dword) (s : State) :
    hostWriteBuf m i v s = .refused (.readOnlyMemory m) := by
  simp [hostWriteBuf, h]

/-- The right to write is checked before the index. -/
theorem hostWriteBuf_of_elementCount_le {m : MemName} {i : Nat} {s : State} (h : elementCount s.hw m ≤ i) (v : Dword) :
    hostWriteBuf m i v s = .refused (if memWritable m then .indexOutOfRange m i else .readOnlyMemory m) := by
  by_cases hw : memWritable m = true
  · simp [hostWriteBuf, hw, h]
  · rw [hostWriteBuf_of_readOnly (by simpa using hw), if_neg hw]

theorem hostReadBuf_of_elementCount_le {m : MemName} {i : Nat} {s : State} (h : elementCount s.hw m ≤ i) :
    hostReadBuf m i s = .refused (.indexOutOfRange m i) := by
  simp [hostReadBuf, h]

/-- A step on an input that its primitive refuses is refused. -/
theorem step_refused {s : State} {x : Input} {rest : List Input} {r : Refusal} (h : s.inputs = x :: rest)
    (hx : takeInput x (s.popInput rest) = .refused r) : ∃ r', step s = .refused r' :=
  ⟨r, (step_of_inputs h).trans hx⟩

/-- Settles O59: each clause is the primitive's own rule, run by the step that takes the input. -/
theorem accessesWithoutMeaningAreRefused : Obligations.AccessesWithoutMeaningAreRefused := by
  intro s rest
  refine ⟨fun no hno => ⟨fun v h => ?reservedWrite, fun h => ?reservedRead⟩, fun no v hno h => ?readOnly,
    fun h => ?writeOnly, fun b i v hb h => ?readOnlyMemory, fun m i v hi h => ?writePast, fun m i hi h => ?readPast⟩
  case reservedWrite => exact step_refused h (hostWriteReg_of_undefined (regOfNumber_eq_none hno) _ _)
  case reservedRead => exact step_refused h (hostReadReg_of_undefined (regOfNumber_eq_none hno) _)
  case readOnly =>
    obtain ⟨r, hr, hacc⟩ := regOfNumber_readOnly hno
    exact step_refused h (hostWriteReg_of_readOnly hr hacc _ _)
  case writeOnly => exact step_refused h (hostReadReg_of_writeOnly (no := 0x00) (r := .cmd) rfl rfl (s.popInput rest))
  case readOnlyMemory =>
    have hm : memWritable (.buf b) = false := by rcases hb with rfl | rfl <;> rfl
    exact step_refused h (hostWriteBuf_of_readOnly hm _ _ _)
  case writePast => exact step_refused h (hostWriteBuf_of_elementCount_le (s := s.popInput rest) hi v)
  case readPast => exact step_refused h (hostReadBuf_of_elementCount_le (s := s.popInput rest) hi)

end Sys2Proof.Machine
end

section
/-! The command word: what the decoder does with the words of each group of opcodes (R95 to R98), and what a step does with
a legal and with an illegal word (R264, R281). -/

namespace Sys2Proof

open Sys2Proof.Machine

/-! The decoders of the three formats reject exactly the words with a nonzero must-be-zero field (R95, R98). -/

theorem decodeZ_error_iff {i : Instr} {w : Word} :
    (∃ e, decodeZ i w = .error e) ↔ zeroField w ≠ 0 ∨ tagField w ≠ 0 ∨ immField w ≠ 0 := by
  unfold decodeZ
  split_ifs <;> simp_all

theorem decodeT_error_iff {i : Tag → Instr} {w : Word} :
    (∃ e, decodeT i w = .error e) ↔ zeroField w ≠ 0 ∨ immField w ≠ 0 := by
  unfold decodeT
  split_ifs <;> simp_all

theorem decodeI_error_iff {i : Nat → Instr} {w : Word} :
    (∃ e, decodeI i w = .error e) ↔ zeroField w ≠ 0 ∨ tagField w ≠ 0 := by
  unfold decodeI
  split_ifs <;> simp_all

theorem decodeT_ok {i : Tag → Instr} {w : Word} (hz : zeroField w = 0) (himm : immField w = 0) :
    decodeT i w = .ok (i (tagField w)) := by
  simp [decodeT, hz, himm]

/-! Which decoder an opcode selects (R96). -/

theorem decode_of_opcodesZ {w : Word} (h : (opField w).toNat ∈ opcodesZ) : ∃ i, decode w = decodeZ i w := by
  simp only [opcodesZ, List.mem_cons, List.not_mem_nil, or_false] at h
  rcases h with h | h | h | h | h | h | h | h | h | h | h | h <;> exact ⟨_, by simp only [decode, h]; rfl⟩

theorem decode_of_opcodesT {w : Word} (h : (opField w).toNat ∈ opcodesT) :
    (opField w = 0x10 ∧ decode w = decodeT .enc w) ∨ (opField w = 0x11 ∧ decode w = decodeT .dec w) := by
  simp only [opcodesT, List.mem_cons, List.not_mem_nil, or_false] at h
  rcases h with h | h
  · exact .inl ⟨BitVec.eq_of_toNat_eq h, by simp only [decode, h]⟩
  · exact .inr ⟨BitVec.eq_of_toNat_eq h, by simp only [decode, h]⟩

theorem decode_of_opcodesI {w : Word} (h : (opField w).toNat ∈ opcodesI) : ∃ i, decode w = decodeI i w := by
  simp only [opcodesI, List.mem_cons, List.not_mem_nil, or_false] at h
  rcases h with h | h | h <;> exact ⟨_, by simp only [decode, h]; rfl⟩

theorem decode_of_undefinedOpcode {w : Word} (h : (opField w).toNat ∉ opcodesZ ++ opcodesT ++ opcodesI) :
    decode w = .error .undefinedOpcode := by
  unfold decode
  split <;> simp_all [opcodesZ, opcodesT, opcodesI]

/-! The illegal words, by the group of the opcode. -/

theorem illegalWord_of_opcodesZ {w : Word} (h : (opField w).toNat ∈ opcodesZ) :
    illegalWord w ↔ zeroField w ≠ 0 ∨ tagField w ≠ 0 ∨ immField w ≠ 0 := by
  obtain ⟨i, hi⟩ := decode_of_opcodesZ h
  rw [illegalWord, hi, decodeZ_error_iff]

theorem illegalWord_of_opcodesT {w : Word} (h : (opField w).toNat ∈ opcodesT) :
    illegalWord w ↔ zeroField w ≠ 0 ∨ immField w ≠ 0 := by
  rcases decode_of_opcodesT h with ⟨-, hd⟩ | ⟨-, hd⟩ <;> rw [illegalWord, hd, decodeT_error_iff]

theorem illegalWord_of_opcodesI {w : Word} (h : (opField w).toNat ∈ opcodesI) :
    illegalWord w ↔ zeroField w ≠ 0 ∨ tagField w ≠ 0 := by
  obtain ⟨i, hi⟩ := decode_of_opcodesI h
  rw [illegalWord, hi, decodeI_error_iff]

theorem opcodesT_disjoint {n : Nat} (h : n ∈ opcodesT) : n ∉ opcodesZ ++ opcodesI := by
  revert n; decide

theorem opcodesI_disjoint {n : Nat} (h : n ∈ opcodesI) : n ∉ opcodesZ ++ opcodesT := by
  revert n; decide

/-- R98's illegal words: a must-be-zero field of the opcode's format is not zero. -/
theorem illegalWord_of_nonzeroField {w : Word} (hop : (opField w).toNat ∈ opcodesZ ++ opcodesT ++ opcodesI)
    (h : zeroField w ≠ 0 ∨ ((opField w).toNat ∈ opcodesZ ++ opcodesT ∧ immField w ≠ 0) ∨
      ((opField w).toNat ∈ opcodesZ ++ opcodesI ∧ tagField w ≠ 0)) : illegalWord w := by
  rw [List.mem_append, List.mem_append] at hop
  obtain (hZ | hT) | hI := hop
  · rw [illegalWord_of_opcodesZ hZ]; tauto
  · have := opcodesT_disjoint hT
    rw [illegalWord_of_opcodesT hT]; tauto
  · have := opcodesI_disjoint hI
    rw [illegalWord_of_opcodesI hI]; tauto

/-- A legal format-T word is the word of `ENC` or of `DEC`, by its opcode, with its own tag (R96). -/
theorem decode_formatT {w : Word} (hop : (opField w).toNat ∈ opcodesT) (hz : zeroField w = 0) (himm : immField w = 0) :
    (opField w = 0x10 ∧ decode w = .ok (.enc (tagField w)) ∧ encode (.enc (tagField w)) = w) ∨
    (opField w = 0x11 ∧ decode w = .ok (.dec (tagField w)) ∧ encode (.dec (tagField w)) = w) := by
  have hw := packWord_fields w hz
  rw [himm] at hw
  obtain ⟨h10, hd⟩ | ⟨h11, hd⟩ := decode_of_opcodesT hop
  · rw [h10] at hw
    exact .inl ⟨h10, hd.trans (decodeT_ok hz himm), hw⟩
  · rw [h11] at hw
    exact .inr ⟨h11, hd.trans (decodeT_ok hz himm), hw⟩

/-- The word of every command under the mask of its format is its opcode (R96). -/
theorem encode_and_mask (i : Instr) : encode i &&& i.format.mask = i.opcode.setWidth 32 := by
  cases i with
  | nop => exact Laws.MatchMask.nop
  | abort => exact Laws.MatchMask.abort
  | clrf => exact Laws.MatchMask.clrf
  | enc dt => exact Laws.MatchMask.enc dt
  | dec dt => exact Laws.MatchMask.dec dt
  | seed => exact Laws.MatchMask.seed
  | next => exact Laws.MatchMask.next
  | filln => exact Laws.MatchMask.filln
  | dup => exact Laws.MatchMask.dup
  | presc => exact Laws.MatchMask.presc
  | sview => exact Laws.MatchMask.sview
  | stepc => exact Laws.MatchMask.stepc
  | steps => exact Laws.MatchMask.steps
  | vscale => exact Laws.MatchMask.vscale
  | sigma k => exact Laws.MatchMask.sigma k
  | delta k => exact Laws.MatchMask.delta k
  | tstep k => exact Laws.MatchMask.tstep k

/-- A format-T word as a number: `dt` in bits 11:8 (R90). -/
theorem packWord_tag_toNat (op : BitVec 8) (dt : Tag) : (packWord op dt 0).toNat = dt.toNat * 0x100 + op.toNat := by
  simp [packWord_toNat]

/-- A format-I word as a number: an index below 65536 stands whole in bits 31:16 (R90, R94). -/
theorem packWord_index_toNat (op : BitVec 8) {i : Nat} (h : i < 65536) :
    (packWord op 0 (BitVec.ofNat 16 i)).toNat = i * 0x10000 + op.toNat := by
  rw [packWord_toNat, BitVec.toNat_ofNat, Nat.mod_eq_of_lt h]
  simp

end Sys2Proof

namespace Sys2Proof.Machine

open Sys2Proof

/-! A step on a command word in the unfaulted state (R281). -/

theorem step_of_illegalWord {s : State} {w : Word} {rest : List Input} (hf : s.fault = .noFault)
    (hin : s.inputs = commandInput w :: rest) (h : illegalWord w) :
    step s = .next ((s.popInput rest).raise .illegalCommand w) := by
  obtain ⟨e, he⟩ := h
  simp [step_of_commandInput hin, hostCommand, hf, he]

theorem step_of_decode {s : State} {w : Word} {rest : List Input} {i : Instr} (hf : s.fault = .noFault)
    (hin : s.inputs = commandInput w :: rest) (h : decode w = .ok i) : step s = exec i (s.popInput rest) := by
  simp [step_of_commandInput hin, hostCommand, hf, h]

/-! `ENC` and `DEC` by their tag (R151, R161, R262). -/

theorem exec_enc_eq_guarded (dt : Tag) (s : State) : exec (.enc dt) s =
    guarded (.enc dt) [checkTag dt] (fun s => some (s.setRes ((encodeHalf s.opa).setWidth 64))) s := by rfl

theorem exec_dec_eq_guarded (dt : Tag) (s : State) : exec (.dec dt) s = guarded (.dec dt) [checkTag dt]
    (fun s => some (s.setRes ((decodeHalf (s.opa.extractLsb' 0 16)).setWidth 64))) s := by rfl

theorem exec_enc_f16 (s : State) : exec (.enc tagF16) s = .next (s.setRes ((encodeHalf s.opa).setWidth 64)) := by
  rw [exec_enc_eq_guarded, guarded_pass (by simp), finish]

theorem exec_dec_f16 (s : State) :
    exec (.dec tagF16) s = .next (s.setRes ((decodeHalf (s.opa.extractLsb' 0 16)).setWidth 64)) := by
  rw [exec_dec_eq_guarded, guarded_pass (by simp), finish]

/-- A dtype check that fails is fault entry, whatever the body would do (R262, R266). -/
theorem guarded_checkTag_ne {dt : Tag} (h : dt ≠ tagF16) (i : Instr) (body : State → Option State) (s : State) :
    guarded i [checkTag dt] body s = .next (s.raise .unsupportedDType (encode i)) :=
  guarded_next.2 (.inl ⟨_, by simp [checkTag, h], rfl⟩)

theorem exec_enc_of_ne {dt : Tag} (h : dt ≠ tagF16) (s : State) :
    exec (.enc dt) s = .next (s.raise .unsupportedDType (encode (.enc dt))) := by
  rw [exec_enc_eq_guarded, guarded_checkTag_ne h]

theorem exec_dec_of_ne {dt : Tag} (h : dt ≠ tagF16) (s : State) :
    exec (.dec dt) s = .next (s.raise .unsupportedDType (encode (.dec dt))) := by
  rw [exec_dec_eq_guarded, guarded_checkTag_ne h]

/-- Settles O5: a nonzero must-be-zero field makes the word illegal; a format-T word without one decodes to `ENC` or `DEC`
of its tag, whose dtype check decides. -/
theorem nonzeroMustBeZeroFieldRaisesIllegalCommand : Obligations.NonzeroMustBeZeroFieldRaisesIllegalCommand := by
  intro s w rest hf hin
  refine ⟨fun hop hnz => step_of_illegalWord hf hin (illegalWord_of_nonzeroField hop hnz), fun hop hz himm => ?_⟩
  obtain ⟨hc, hd, hw⟩ | ⟨hc, hd, hw⟩ := decode_formatT hop hz himm
  · have hstep := step_of_decode hf hin hd
    refine ⟨fun ht => ?_, fun ht => ?_⟩
    · rw [ht] at hstep
      exact ⟨fun _ => hstep, fun h => absurd (hc.symm.trans h) (by decide), _, hstep.trans (exec_enc_f16 _), hf⟩
    · rw [hstep, exec_enc_of_ne ht, hw]
      rfl
  · have hstep := step_of_decode hf hin hd
    refine ⟨fun ht => ?_, fun ht => ?_⟩
    · rw [ht] at hstep
      exact ⟨fun h => absurd (hc.symm.trans h) (by decide), fun _ => hstep, _, hstep.trans (exec_dec_f16 _), hf⟩
    · rw [hstep, exec_dec_of_ne ht, hw]
      rfl

/-- Settles O3: the table's words by evaluation, the formats' words by the packing, the masks command by command. -/
theorem wordsOfTheOpcodeMap : Obligations.WordsOfTheOpcodeMap := by
  refine ⟨?words, fun dt => ⟨packWord_tag_toNat _ dt, packWord_tag_toNat _ dt⟩,
    fun i hi => ⟨packWord_index_toNat _ hi, packWord_index_toNat _ hi, packWord_index_toNat _ hi⟩, encode_and_mask⟩
  case words => decide

/-- Settles O4: the decoder rejects the word, and the dispatch raises. -/
theorem undefinedOpcodeRaisesIllegalCommand : Obligations.UndefinedOpcodeRaisesIllegalCommand :=
  fun _ _ _ hf hin hop => step_of_illegalWord hf hin ⟨_, decode_of_undefinedOpcode hop⟩

end Sys2Proof.Machine
end

section
/-! Rounding to nearest (R125): the values of magnitude patterns, the pattern a magnitude rounds to as the one whose two
midpoints enclose it, and `roundUnits` as that pattern cut at the infinity. -/

namespace Sys2Proof.Machine

open Sys2Proof

/-! The values of magnitude patterns. -/

theorem unitsOfMag_fields {fbits f : Nat} (e : Nat) (hf : f < 2 ^ fbits) :
    unitsOfMag fbits (e * 2 ^ fbits + f) = unitsOf fbits e f := by
  rw [unitsOfMag, Nat.mul_comm, Nat.mul_add_mod, Nat.mod_eq_of_lt hf, Nat.mul_add_div (by positivity),
    Nat.div_eq_of_lt hf, Nat.add_zero]

/-- The pattern of `n * 2^q` units, `n` the significand (with its hidden bit unless `q = 0`): a carry of the significand
out of its bits is the next exponent. -/
theorem unitsOfMag_significand {fbits q n : Nat} (hn : n ≤ 2 ^ (fbits + 1)) (hq : q = 0 ∨ 2 ^ fbits ≤ n) :
    unitsOfMag fbits (q * 2 ^ fbits + n) = n * 2 ^ q := by
  have hpos : 0 < 2 ^ fbits := by positivity
  rw [Nat.pow_succ] at hn
  obtain hsub | hnorm := Nat.lt_or_ge n (2 ^ fbits)
  · obtain rfl : q = 0 := by omega
    rw [unitsOfMag_fields 0 hsub]
    simp [unitsOf]
  · obtain ⟨f, rfl⟩ := Nat.exists_eq_add_of_le hnorm
    obtain hf | hcarry := Nat.lt_or_ge f (2 ^ fbits)
    · have hm : q * 2 ^ fbits + (2 ^ fbits + f) = (q + 1) * 2 ^ fbits + f := by ring
      rw [hm, unitsOfMag_fields _ hf]
      simp [unitsOf]
    · obtain rfl : f = 2 ^ fbits := by omega
      have hm : q * 2 ^ fbits + (2 ^ fbits + 2 ^ fbits) = (q + 2) * 2 ^ fbits + 0 := by ring
      rw [hm, unitsOfMag_fields _ hpos]
      simp [unitsOf, Nat.pow_succ]
      ring

/-- Every pattern has a significand with room for one more unit in the last place. -/
theorem exists_significand (fbits m : Nat) :
    ∃ q n, m = q * 2 ^ fbits + n ∧ n < 2 ^ (fbits + 1) ∧ (q = 0 ∨ 2 ^ fbits ≤ n) ∧ q = m / 2 ^ fbits - 1 := by
  have hdiv := Nat.div_add_mod m (2 ^ fbits)
  have hmod : m % 2 ^ fbits < 2 ^ fbits := Nat.mod_lt _ (by positivity)
  rw [Nat.pow_succ]
  obtain he | ⟨e, he⟩ : m / 2 ^ fbits = 0 ∨ ∃ e, m / 2 ^ fbits = e + 1 :=
    (m / 2 ^ fbits).eq_zero_or_eq_succ_pred.imp_right fun h => ⟨_, h⟩
  · rw [he] at hdiv
    exact ⟨0, m, by omega, by omega, .inl rfl, by omega⟩
  · rw [he, Nat.mul_succ, Nat.mul_comm] at hdiv
    exact ⟨e, 2 ^ fbits + m % 2 ^ fbits, by omega, by omega, .inr (by omega), by omega⟩

theorem unitsOfMag_succ (fbits m : Nat) :
    unitsOfMag fbits (m + 1) = unitsOfMag fbits m + 2 ^ (m / 2 ^ fbits - 1) := by
  obtain ⟨q, n, hm, hn, hq, hexp⟩ := exists_significand fbits m
  rw [← hexp, hm, unitsOfMag_significand hn.le hq, Nat.add_assoc, unitsOfMag_significand hn (by omega), Nat.succ_mul]

theorem unitsOfMag_strictMono (fbits : Nat) : StrictMono (unitsOfMag fbits) :=
  strictMono_nat_of_lt_succ fun m => by rw [unitsOfMag_succ]; exact Nat.lt_add_of_pos_right (by positivity)

@[simp] theorem unitsOfMag_zero (fbits : Nat) : unitsOfMag fbits 0 = 0 := by
  simp [unitsOfMag, unitsOf]

/-- The value of the first pattern of an exponent field. -/
theorem unitsOfMag_exponent (fbits e : Nat) : unitsOfMag fbits ((e + 1) * 2 ^ fbits) = 2 ^ (fbits + e) := by
  rw [Nat.succ_mul, unitsOfMag_significand (Nat.pow_le_pow_right (by omega) (by omega)) (.inr le_rfl), Nat.pow_add]

/-- The value of the last pattern below an exponent field above 1. -/
theorem unitsOfMag_below_exponent (fbits e : Nat) :
    unitsOfMag fbits ((e + 2) * 2 ^ fbits - 1) = (2 ^ (fbits + 1) - 1) * 2 ^ e := by
  have hpos : 0 < 2 ^ fbits := by positivity
  have hm : (e + 2) * 2 ^ fbits - 1 = e * 2 ^ fbits + (2 ^ (fbits + 1) - 1) := by
    rw [Nat.pow_succ, Nat.add_mul]; omega
  rw [hm, unitsOfMag_significand (by omega) (.inr (by rw [Nat.pow_succ]; omega))]

theorem two_pow_dvd_unitsOfMag {fbits k m : Nat} (h : (k + 1) * 2 ^ fbits ≤ m) : 2 ^ k ∣ unitsOfMag fbits m := by
  obtain ⟨q, n, hm, hn, hq, hexp⟩ := exists_significand fbits m
  have hk : k + 1 ≤ m / 2 ^ fbits := (Nat.le_div_iff_mul_le (by positivity)).2 h
  rw [hm, unitsOfMag_significand hn.le hq]
  exact Dvd.dvd.mul_left (Nat.pow_dvd_pow 2 (by omega)) n

/-! The pattern that a magnitude rounds to. -/

/-- `num / den` units round to the pattern `m` of a format without a largest exponent: the midpoints of `m` with its two
neighbours enclose the magnitude, and a midpoint itself goes to the even pattern (the pattern 0 has no midpoint below). -/
structure RoundsTo (fbits num den m : Nat) : Prop where
  lower : den * (unitsOfMag fbits (m - 1) + unitsOfMag fbits m) ≤ 2 * num
  lowerTie : den * (unitsOfMag fbits (m - 1) + unitsOfMag fbits m) = 2 * num → m % 2 = 0
  upper : 2 * num ≤ den * (unitsOfMag fbits m + unitsOfMag fbits (m + 1))
  upperTie : 2 * num = den * (unitsOfMag fbits m + unitsOfMag fbits (m + 1)) → m % 2 = 0

/-- Neighbouring midpoints are in the order of the patterns. -/
theorem midpoint_mono (fbits : Nat) {m m' : Nat} (h : m ≤ m') :
    unitsOfMag fbits m + unitsOfMag fbits (m + 1) ≤ unitsOfMag fbits m' + unitsOfMag fbits (m' + 1) :=
  Nat.add_le_add ((unitsOfMag_strictMono fbits).monotone h) ((unitsOfMag_strictMono fbits).monotone (by omega))

theorem midpoint_strictMono (fbits : Nat) {m m' : Nat} (h : m < m') :
    unitsOfMag fbits m + unitsOfMag fbits (m + 1) < unitsOfMag fbits m' + unitsOfMag fbits (m' + 1) :=
  Nat.add_lt_add (unitsOfMag_strictMono fbits h) (unitsOfMag_strictMono fbits (by omega))

theorem RoundsTo.not_lt {fbits num den m m' : Nat} (hden : 0 < den) (h : RoundsTo fbits num den m)
    (h' : RoundsTo fbits num den m') : ¬ m < m' := by
  intro hlt
  obtain ⟨k, rfl⟩ : ∃ k, m' = k + 1 := ⟨m' - 1, by omega⟩
  have hlow := h'.lower
  have htie := h'.lowerTie
  have hup := h.upper
  rw [Nat.add_sub_cancel] at hlow htie
  obtain hk | rfl := Nat.lt_or_eq_of_le (show m ≤ k by omega)
  · have := Nat.mul_lt_mul_of_pos_left (midpoint_strictMono fbits hk) hden
    omega
  · have heven := h.upperTie (by omega)
    have := htie (by omega)
    omega

theorem RoundsTo.unique {fbits num den m m' : Nat} (hden : 0 < den) (h : RoundsTo fbits num den m)
    (h' : RoundsTo fbits num den m') : m = m' :=
  Nat.le_antisymm (Nat.not_lt.1 (h'.not_lt hden h)) (Nat.not_lt.1 (h.not_lt hden h'))

/-- A magnitude between two neighbouring patterns rounds to the nearer one, from their midpoint to the even one. -/
theorem roundsTo_of_between {fbits num den m : Nat} (hlo : den * unitsOfMag fbits m ≤ num)
    (hhi : num < den * unitsOfMag fbits (m + 1)) :
    RoundsTo fbits num den
      (if den * (unitsOfMag fbits m + unitsOfMag fbits (m + 1)) < 2 * num ∨
        (2 * num = den * (unitsOfMag fbits m + unitsOfMag fbits (m + 1)) ∧ m % 2 = 1) then m + 1 else m) := by
  have hbelow : den * unitsOfMag fbits (m - 1) ≤ den * unitsOfMag fbits m :=
    Nat.mul_le_mul_left _ ((unitsOfMag_strictMono fbits).monotone (by omega))
  have habove : den * unitsOfMag fbits (m + 1) ≤ den * unitsOfMag fbits (m + 1 + 1) :=
    Nat.mul_le_mul_left _ ((unitsOfMag_strictMono fbits).monotone (by omega))
  have hden : 0 < den := Nat.pos_of_ne_zero fun h => by simp [h] at hhi
  have hbelow' : 0 < m → den * unitsOfMag fbits (m - 1) < den * unitsOfMag fbits m := fun hm =>
    Nat.mul_lt_mul_of_pos_left (unitsOfMag_strictMono fbits (by omega)) hden
  simp only [Nat.mul_add]
  split_ifs with hup
  · constructor <;> simp only [Nat.mul_add, Nat.add_sub_cancel] <;> omega
  · constructor <;> simp only [Nat.mul_add] <;> omega

/-- A value of the format rounds to its own pattern. -/
theorem roundsTo_unitsOfMag {fbits den : Nat} (hden : 0 < den) (m : Nat) :
    RoundsTo fbits (den * unitsOfMag fbits m) den m := by
  have hlt := Nat.mul_lt_mul_of_pos_left (unitsOfMag_strictMono fbits (Nat.lt_succ_self m)) hden
  have h := roundsTo_of_between le_rfl hlt
  rwa [if_neg (by rw [Nat.mul_add]; rw [Nat.succ_eq_add_one] at hlt; omega)] at h

/-! `roundUnits` -/

/-- The significand that `roundUnits` cuts off has its hidden bit, unless it is in the subnormal range. -/
theorem significand_bounds (fbits x : Nat) :
    x / 2 ^ (Nat.log2 x - fbits) < 2 ^ (fbits + 1) ∧
      (Nat.log2 x - fbits = 0 ∨ 2 ^ fbits ≤ x / 2 ^ (Nat.log2 x - fbits)) := by
  rw [Nat.div_lt_iff_lt_mul (by positivity), Nat.le_div_iff_mul_le (by positivity), ← Nat.pow_add, ← Nat.pow_add]
  refine ⟨lt_of_lt_of_le Nat.lt_log2_self (Nat.pow_le_pow_right (by omega) (by omega)), ?_⟩
  obtain h | h := le_or_gt (Nat.log2 x) fbits
  · exact .inl (by omega)
  · have hx : x ≠ 0 := by rintro rfl; simp at h
    rw [Nat.add_sub_cancel' h.le]
    exact .inr (Nat.log2_self_le hx)

/-- `roundUnits` is the pattern its argument rounds to, cut at the infinity. -/
theorem exists_roundsTo_roundUnits {fbits den : Nat} (hf : 1 ≤ fbits) (hden : 0 < den) (infMag num : Nat) :
    ∃ m, RoundsTo fbits num den m ∧ roundUnits fbits infMag num den = min m infMag := by
  obtain ⟨hn, hq⟩ := significand_bounds fbits (num / den)
  generalize hqdef : Nat.log2 (num / den) - fbits = q at hn hq
  generalize hndef : num / den / 2 ^ q = n at hn hq
  rw [Nat.div_div_eq_div_mul] at hndef
  have hnum := Nat.div_add_mod num (den * 2 ^ q)
  have hrem : num % (den * 2 ^ q) < den * 2 ^ q := Nat.mod_lt _ (by positivity)
  have hlo : den * unitsOfMag fbits (q * 2 ^ fbits + n) = den * 2 ^ q * n := by
    rw [unitsOfMag_significand hn.le hq]; ring
  have hhi : den * unitsOfMag fbits (q * 2 ^ fbits + n + 1) = den * 2 ^ q * n + den * 2 ^ q := by
    rw [Nat.add_assoc, unitsOfMag_significand hn (by omega), Nat.succ_mul]; ring
  have hparity : (q * 2 ^ fbits + n) % 2 = n % 2 := by
    obtain ⟨k, rfl⟩ := Nat.exists_eq_add_of_le hf
    rw [Nat.pow_add, Nat.mul_left_comm, pow_one, Nat.mul_add_mod]
  rw [hndef] at hnum
  refine ⟨_, roundsTo_of_between (m := q * 2 ^ fbits + n) (by omega) (by omega), ?_⟩
  simp only [roundUnits, hqdef, hndef, Nat.mul_add, hlo, hhi, hparity]
  congr 1
  split_ifs <;> omega

theorem RoundsTo.roundUnits_eq {fbits num den m : Nat} (hf : 1 ≤ fbits) (hden : 0 < den)
    (h : RoundsTo fbits num den m) (infMag : Nat) : roundUnits fbits infMag num den = min m infMag := by
  obtain ⟨m', hm', hround⟩ := exists_roundsTo_roundUnits hf hden infMag num
  rw [hround, hm'.unique hden h]

theorem roundUnits_le (fbits infMag num den : Nat) : roundUnits fbits infMag num den ≤ infMag :=
  Nat.min_le_right _ _

@[simp] theorem roundUnits_zero (fbits infMag den : Nat) : roundUnits fbits infMag 0 den = 0 := by
  simp [roundUnits, Nat.log2_zero]

/-! R125's law. -/

/-- The magnitude lies below the midpoint above an odd pattern `k` exactly when it rounds to `k` or below. -/
theorem RoundsTo.le_iff {fbits num den m k : Nat} (hden : 0 < den) (h : RoundsTo fbits num den m) (hk : k % 2 = 1) :
    m ≤ k ↔ 2 * num < den * (unitsOfMag fbits k + unitsOfMag fbits (k + 1)) := by
  constructor
  · intro hle
    obtain hlt | rfl := Nat.lt_or_eq_of_le hle
    · exact lt_of_le_of_lt h.upper (Nat.mul_lt_mul_of_pos_left (midpoint_strictMono fbits hlt) hden)
    · exact lt_of_le_of_ne h.upper fun htie => by have := h.upperTie htie; omega
  · intro hlt
    by_contra hle
    obtain ⟨j, rfl⟩ : ∃ j, m = j + 1 := ⟨m - 1, by omega⟩
    have := Nat.mul_le_mul_left den (midpoint_mono fbits (show k ≤ j by omega))
    have := h.lower
    rw [Nat.add_sub_cancel] at this
    omega

/-- No other pattern is nearer, and only an even one has another as near. -/
theorem RoundsTo.distanceOfMag_le {fbits num den m m' : Nat} (hden : 0 < den) (h : RoundsTo fbits num den m)
    (hne : m' ≠ m) : distanceOfMag fbits num den m ≤ distanceOfMag fbits num den m' ∧
      (distanceOfMag fbits num den m = distanceOfMag fbits num den m' → m % 2 = 0) := by
  obtain ⟨hlow, hlowTie, hup, hupTie⟩ := h
  simp only [Nat.mul_add] at hlow hlowTie hup hupTie
  have hmono : ∀ {a b}, a ≤ b → den * unitsOfMag fbits a ≤ den * unitsOfMag fbits b := fun hab =>
    Nat.mul_le_mul_left _ ((unitsOfMag_strictMono fbits).monotone hab)
  have hdist : den * unitsOfMag fbits m ≠ den * unitsOfMag fbits m' := fun heq =>
    hne ((unitsOfMag_strictMono fbits).injective (Nat.eq_of_mul_eq_mul_left hden heq)).symm
  unfold distanceOfMag
  obtain hlt | hgt := Nat.lt_or_gt_of_ne hne
  · have := hmono (show m' ≤ m - 1 by omega)
    have := hmono (show m - 1 ≤ m by omega)
    omega
  · have := hmono (show m + 1 ≤ m' by omega)
    have := hmono (show m ≤ m + 1 by omega)
    omega

/-- The midpoint above the largest finite value (R125). -/
theorem overflow_midpoint {fbits top : Nat} (htop : 3 ≤ top) :
    unitsOfMag fbits (top * 2 ^ fbits - 1) + unitsOfMag fbits (top * 2 ^ fbits) =
      2 * ((2 ^ (fbits + 2) - 1) * 2 ^ (top - 3)) := by
  obtain ⟨e, rfl⟩ := Nat.exists_eq_add_of_le' htop
  obtain ⟨x, hx⟩ : ∃ x, 2 ^ (fbits + 1) = x + 1 := Nat.exists_eq_add_of_le' Nat.one_le_two_pow
  have htwice : 2 ^ (fbits + 2) - 1 = 2 * x + 1 := by rw [Nat.pow_succ, hx]; omega
  have htop : 2 ^ (fbits + (e + 2)) = (x + 1) * 2 ^ (e + 1) := by rw [← hx, ← Nat.pow_add]; congr 1; omega
  rw [unitsOfMag_below_exponent, unitsOfMag_exponent, Nat.add_sub_cancel, htwice, htop, hx, Nat.add_sub_cancel]
  ring

/-- The pattern a magnitude rounds to, cut at the infinity, is R125's. -/
theorem RoundsTo.nearestMag {fbits top num den m : Nat} (hf : 1 ≤ fbits) (htop : 3 ≤ top) (hden : 0 < den)
    (h : RoundsTo fbits num den m) : nearestMag fbits top num den (min m (top * 2 ^ fbits)) := by
  have heven : top * 2 ^ fbits % 2 = 0 := by
    obtain ⟨k, rfl⟩ := Nat.exists_eq_add_of_le hf
    rw [Nat.pow_add, Nat.mul_left_comm, pow_one, Nat.mul_mod_right]
  have hpos : 0 < top * 2 ^ fbits := by positivity
  have hfinite := h.le_iff hden (show (top * 2 ^ fbits - 1) % 2 = 1 by omega)
  rw [Nat.sub_add_cancel hpos, overflow_midpoint htop, Nat.mul_left_comm] at hfinite
  refine ⟨Nat.min_le_right _ _, by omega, fun hlt m' _ hne => ?_⟩
  rw [Nat.min_eq_left (by omega)] at hne ⊢
  exact h.distanceOfMag_le hden hne

/-- R125's law of `roundUnits`. -/
theorem nearestMag_roundUnits {fbits top den : Nat} (hf : 1 ≤ fbits) (htop : 3 ≤ top) (hden : 0 < den) (num : Nat) :
    nearestMag fbits top num den (roundUnits fbits (top * 2 ^ fbits) num den) := by
  obtain ⟨m, hm, hround⟩ := exists_roundsTo_roundUnits hf hden (top * 2 ^ fbits) num
  rw [hround]
  exact hm.nearestMag hf htop hden

end Sys2Proof.Machine
end

section
/-! Patterns as a sign and a magnitude pattern: every pattern is one, and its value by its magnitude (R100 to R102). -/

namespace Sys2Proof.Machine

open Sys2Proof

/-- The value of a sign and a magnitude pattern; `top` is the exponent field of infinities and NaNs. -/
def valOfMag (fbits top : Nat) (neg : Bool) (mag : Nat) : FpVal :=
  valOf fbits top neg (mag / 2 ^ fbits) (mag % 2 ^ fbits)

theorem valOfMag_finite {fbits top mag : Nat} (h : mag < top * 2 ^ fbits) (neg : Bool) :
    valOfMag fbits top neg mag = .fin neg (unitsOfMag fbits mag) :=
  if_neg (Nat.div_lt_of_lt_mul (by rwa [Nat.mul_comm])).ne

@[simp] theorem valOfMag_infinity (fbits top : Nat) (neg : Bool) :
    valOfMag fbits top neg (top * 2 ^ fbits) = .inf neg := by
  simp [valOfMag, valOf]

theorem valOfMag_ne_nan {fbits top mag : Nat} (h : mag ≤ top * 2 ^ fbits) (neg : Bool) :
    valOfMag fbits top neg mag ≠ .nan := by
  obtain hlt | rfl := Nat.lt_or_eq_of_le h
  · simp [valOfMag_finite hlt]
  · simp

/-- The class of a value by its magnitude: finite below the infinity, a NaN above it. -/
theorem valOfMag_eq_fin {fbits top mag u : Nat} {neg a : Bool} (hm : mag < (top + 1) * 2 ^ fbits)
    (h : valOfMag fbits top neg mag = .fin a u) : neg = a ∧ mag < top * 2 ^ fbits ∧ u = unitsOfMag fbits mag := by
  have he : mag / 2 ^ fbits < top + 1 := Nat.div_lt_of_lt_mul (by rwa [Nat.mul_comm])
  unfold valOfMag valOf at h
  split_ifs at h with htop hf
  obtain ⟨rfl, rfl⟩ := FpVal.fin.inj h
  refine ⟨rfl, ?_, rfl⟩
  exact (Nat.div_lt_iff_lt_mul (by positivity)).1 (by omega)

theorem valOfMag_eq_inf {fbits top mag : Nat} {neg a : Bool} (h : valOfMag fbits top neg mag = .inf a) :
    neg = a ∧ mag = top * 2 ^ fbits := by
  unfold valOfMag valOf at h
  split_ifs at h with htop hf
  refine ⟨FpVal.inf.inj h, ?_⟩
  have := Nat.div_add_mod mag (2 ^ fbits)
  rw [htop, hf] at this
  rw [Nat.mul_comm]
  omega

theorem valOfMag_eq_nan {fbits top mag : Nat} {neg : Bool} (h : valOfMag fbits top neg mag = .nan) :
    mag / 2 ^ fbits = top ∧ mag % 2 ^ fbits ≠ 0 := by
  unfold valOfMag valOf at h
  split_ifs at h with htop hf
  exact ⟨htop, hf⟩

/-! A sign bit above a magnitude. -/

theorem exists_sign_append {w : Nat} (x : BitVec (1 + w)) :
    ∃ a m, m < 2 ^ w ∧ x = BitVec.ofBool a ++ BitVec.ofNat w m := by
  refine ⟨x.toNat.testBit w, x.toNat % 2 ^ w, Nat.mod_lt _ (by positivity), BitVec.eq_of_toNat_eq ?_⟩
  have hx := x.isLt
  rw [Nat.pow_add, pow_one] at hx
  have hdiv := Nat.div_add_mod x.toNat (2 ^ w)
  have hlt : x.toNat / 2 ^ w < 2 := Nat.div_lt_of_lt_mul (by rwa [Nat.mul_comm])
  rw [append_toNat, BitVec.toNat_ofBool, BitVec.toNat_ofNat, Nat.mod_mod, Nat.toNat_testBit, Nat.mod_eq_of_lt hlt,
    Nat.mul_comm, hdiv]

theorem toNat_sign_append {w m : Nat} (a : Bool) (hm : m < 2 ^ w) :
    (BitVec.ofBool a ++ BitVec.ofNat w m).toNat = a.toNat * 2 ^ w + m := by
  rw [append_toNat, BitVec.toNat_ofBool, BitVec.toNat_ofNat, Nat.mod_eq_of_lt hm]

theorem msb_sign_append {w : Nat} (a : Bool) (x : BitVec w) : (BitVec.ofBool a ++ x).msb = a := by
  simp [BitVec.msb_append]

theorem exponent_sign_append {w m fbits ebits : Nat} (a : Bool) (hm : m < 2 ^ w) (hw : w = fbits + ebits) :
    ((BitVec.ofBool a ++ BitVec.ofNat w m).extractLsb' fbits ebits).toNat = m / 2 ^ fbits := by
  rw [BitVec.extractLsb'_toNat, toNat_sign_append a hm, Nat.shiftRight_eq_div_pow, hw, Nat.pow_add,
    show a.toNat * (2 ^ fbits * 2 ^ ebits) + m = 2 ^ fbits * (2 ^ ebits * a.toNat) + m by ring,
    Nat.mul_add_div (by positivity), Nat.mul_add_mod, Nat.mod_eq_of_lt]
  exact Nat.div_lt_of_lt_mul (by rwa [← Nat.pow_add, ← hw])

theorem fraction_sign_append {w m fbits ebits : Nat} (a : Bool) (hm : m < 2 ^ w) (hw : w = fbits + ebits) :
    ((BitVec.ofBool a ++ BitVec.ofNat w m).extractLsb' 0 fbits).toNat = m % 2 ^ fbits := by
  rw [BitVec.extractLsb'_toNat, toNat_sign_append a hm, Nat.shiftRight_zero, hw, Nat.pow_add,
    show a.toNat * (2 ^ fbits * 2 ^ ebits) + m = 2 ^ fbits * (2 ^ ebits * a.toNat) + m by ring, Nat.mul_add_mod]

/-! binary64 -/

theorem val64_pack64 {m : Nat} (hm : m < 2 ^ 63) (a : Bool) : val64 (pack64 a m) = valOfMag 52 2047 a m := by
  have hs := msb_sign_append a (BitVec.ofNat 63 m)
  have he := exponent_sign_append (fbits := 52) (ebits := 11) a hm rfl
  have hf := fraction_sign_append (fbits := 52) (ebits := 11) a hm rfl
  exact congr (congr (congrArg _ hs) he) hf

theorem val64_pack64_finite {m : Nat} (hm : m < infMag64) (a : Bool) :
    val64 (pack64 a m) = .fin a (unitsOfMag 52 m) := by
  rw [val64_pack64 (hm.trans (by decide)), valOfMag_finite hm]

theorem val64_pack64_ne_nan {m : Nat} (hm : m ≤ infMag64) (a : Bool) : val64 (pack64 a m) ≠ .nan := by
  rw [val64_pack64 (hm.trans_lt (by decide))]
  exact valOfMag_ne_nan hm a

@[simp] theorem val64_inf64 (a : Bool) : val64 (inf64 a) = .inf a := by
  rw [inf64, val64_pack64 (by decide)]
  exact valOfMag_infinity 52 2047 a

@[simp] theorem val64_zero64 (a : Bool) : val64 (zero64 a) = .fin a 0 := by
  rw [zero64, val64_pack64_finite (by decide), unitsOfMag_zero]

/-! binary32 -/

theorem val32_sign_append {m : Nat} (hm : m < 2 ^ 31) (a : Bool) :
    val32 (BitVec.ofBool a ++ BitVec.ofNat 31 m) = valOfMag 23 255 a m := by
  have hs := msb_sign_append a (BitVec.ofNat 31 m)
  have he := exponent_sign_append (fbits := 23) (ebits := 8) a hm rfl
  have hf := fraction_sign_append (fbits := 23) (ebits := 8) a hm rfl
  exact congr (congr (congrArg _ hs) he) hf

/-! binary16 -/

theorem exists_sign_append16 (h : Half) : ∃ a m, m < 2 ^ 15 ∧ h = BitVec.ofBool a ++ BitVec.ofNat 15 m :=
  exists_sign_append (w := 15) h

theorem val16_sign_append {m : Nat} (hm : m < 2 ^ 15) (a : Bool) :
    val16 (BitVec.ofBool a ++ BitVec.ofNat 15 m) = valOfMag 10 31 a m := by
  have hs := msb_sign_append a (BitVec.ofNat 15 m)
  have he := exponent_sign_append (fbits := 10) (ebits := 5) a hm rfl
  have hf := fraction_sign_append (fbits := 10) (ebits := 5) a hm rfl
  exact congr (congr (congrArg _ hs) he) hf

end Sys2Proof.Machine
end

section
/-! Addition, subtraction, multiplication and division on values (R126 to R128): an equation for each class of
operands. -/

namespace Sys2Proof.Machine

open Sys2Proof

/-! Rounding to binary64 (R125). -/

theorem exists_nearestMag_of_eq_round64 {d : Dword} {neg : Bool} {num den : Nat} (h : d = round64 neg num den)
    (hden : 0 < den) : ∃ r, d = pack64 neg r ∧ nearestMag 52 2047 num den r :=
  ⟨_, h, nearestMag_roundUnits (by decide) (by decide) hden num⟩

@[simp] theorem round64_zero (neg : Bool) (den : Nat) : round64 neg 0 den = zero64 neg := by
  rw [round64, roundUnits_zero, zero64]

/-! NaN operands. -/

theorem fadd64_nan {x y : Dword} (h : val64 x = .nan ∨ val64 y = .nan) : fadd64 x y = canonNaN64 := by
  unfold fadd64
  obtain h | h := h
  · simp only [h]
  · cases hx : val64 x <;> simp only [h]

theorem fmul64_nan {x y : Dword} (h : val64 x = .nan ∨ val64 y = .nan) : fmul64 x y = canonNaN64 := by
  unfold fmul64
  obtain h | h := h
  · simp only [h]
  · cases hx : val64 x <;> simp only [h]

theorem fdiv64_nan {x y : Dword} (h : val64 x = .nan ∨ val64 y = .nan) : fdiv64 x y = canonNaN64 := by
  unfold fdiv64
  obtain h | h := h
  · simp only [h]
  · cases hx : val64 x <;> simp only [h]

/-- `neg` of R126 keeps a NaN. -/
theorem fsub64_nan {x y : Dword} (h : val64 x = .nan ∨ val64 y = .nan) : fsub64 x y = canonNaN64 := by
  refine fadd64_nan (h.imp_right fun hy => ?_)
  rw [fneg64, if_pos hy, hy]

theorem fsub64_of_ne_nan {y : Dword} (h : val64 y ≠ .nan) (x : Dword) :
    fsub64 x y = fadd64 x (y ^^^ 0x8000000000000000) := by
  rw [fsub64, fneg64, if_neg h]

section
variable {x y : Dword} {a b : Bool} {m n : Nat}

/-! Infinite operands. -/

theorem fadd64_inf_inf (hx : val64 x = .inf a) (hy : val64 y = .inf b) :
    fadd64 x y = if a = b then inf64 a else canonNaN64 := by simp only [fadd64, hx, hy]

theorem fmul64_inf_inf (hx : val64 x = .inf a) (hy : val64 y = .inf b) : fmul64 x y = inf64 (a ^^ b) := by
  simp only [fmul64, hx, hy]

theorem fdiv64_inf_inf (hx : val64 x = .inf a) (hy : val64 y = .inf b) : fdiv64 x y = canonNaN64 := by
  simp only [fdiv64, hx, hy]

theorem fadd64_inf_fin (hx : val64 x = .inf a) (hy : val64 y = .fin b n) : fadd64 x y = inf64 a := by
  simp only [fadd64, hx, hy]

theorem fmul64_inf_fin (hx : val64 x = .inf a) (hy : val64 y = .fin b n) :
    fmul64 x y = if n = 0 then canonNaN64 else inf64 (a ^^ b) := by simp only [fmul64, hx, hy]

theorem fdiv64_inf_fin (hx : val64 x = .inf a) (hy : val64 y = .fin b n) : fdiv64 x y = inf64 (a ^^ b) := by
  simp only [fdiv64, hx, hy]

theorem fadd64_fin_inf (hx : val64 x = .fin a m) (hy : val64 y = .inf b) : fadd64 x y = inf64 b := by
  simp only [fadd64, hx, hy]

theorem fmul64_fin_inf (hx : val64 x = .fin a m) (hy : val64 y = .inf b) :
    fmul64 x y = if m = 0 then canonNaN64 else inf64 (a ^^ b) := by simp only [fmul64, hx, hy]

theorem fdiv64_fin_inf (hx : val64 x = .fin a m) (hy : val64 y = .inf b) : fdiv64 x y = zero64 (a ^^ b) := by
  simp only [fdiv64, hx, hy]

/-! Finite operands. -/

theorem fadd64_fin_fin (hx : val64 x = .fin a m) (hy : val64 y = .fin b n) :
    fadd64 x y = round64
      (if signedUnits a m + signedUnits b n = 0 then a && b else decide (signedUnits a m + signedUnits b n < 0))
      (signedUnits a m + signedUnits b n).natAbs 1 := by
  simp only [fadd64, hx, hy]
  split_ifs with hsum
  · rw [hsum, Int.natAbs_zero, round64_zero]
  · rfl

theorem fmul64_fin_fin (hx : val64 x = .fin a m) (hy : val64 y = .fin b n) :
    fmul64 x y = round64 (a ^^ b) (m * n) (2 ^ 1074) := by simp only [fmul64, hx, hy]

theorem fdiv64_fin_zero (hx : val64 x = .fin a m) (hy : val64 y = .fin b 0) :
    fdiv64 x y = if m = 0 then canonNaN64 else inf64 (a ^^ b) := by simp only [fdiv64, hx, hy, if_true]

theorem fdiv64_fin_fin (hx : val64 x = .fin a m) (hy : val64 y = .fin b n) (hn : n ≠ 0) :
    fdiv64 x y = round64 (a ^^ b) (m * 2 ^ 1074) n := by simp only [fdiv64, hx, hy, if_neg hn]

end

/-- Settles O46: each class of operands by its equation; a finite result is `round64` of the exact one. -/
theorem addMulDivRoundTheExactResultOnce : Obligations.AddMulDivRoundTheExactResultOnce := by
  intro x y
  refine ⟨fun h => ⟨fadd64_nan h, fsub64_nan h, fmul64_nan h, fdiv64_nan h⟩, fun hy => fsub64_of_ne_nan hy x,
    fun a b hx hy => ⟨fadd64_inf_inf hx hy, fmul64_inf_inf hx hy, fdiv64_inf_inf hx hy⟩,
    fun a b n hx hy => ⟨fadd64_inf_fin hx hy, fmul64_inf_fin hx hy, fdiv64_inf_fin hx hy⟩,
    fun a m b hx hy => ⟨fadd64_fin_inf hx hy, fmul64_fin_inf hx hy, fdiv64_fin_inf hx hy⟩,
    fun a b m n hx hy => ⟨?sum, ?product, ?zeroDivisor, ?quotient⟩⟩
  case sum => exact exists_nearestMag_of_eq_round64 (fadd64_fin_fin hx hy) Nat.one_pos
  case product => exact exists_nearestMag_of_eq_round64 (fmul64_fin_fin hx hy) (by positivity)
  case zeroDivisor =>
    rintro rfl
    exact fdiv64_fin_zero hx hy
  case quotient =>
    exact fun hn => exists_nearestMag_of_eq_round64 (fdiv64_fin_fin hx hy hn) (Nat.pos_of_ne_zero hn)

end Sys2Proof.Machine
end

section
/-! NaN results (R130): every branch of every operation is the canonical NaN or no NaN. -/

namespace Sys2Proof.Machine

open Sys2Proof

/-- A result is no NaN, or it is the canonical one. -/
def NaNIsCanonical (d : Dword) : Prop := val64 d = .nan → d = canonNaN64

theorem NaNIsCanonical.canonNaN64 : NaNIsCanonical canonNaN64 := fun _ => rfl

theorem nanIsCanonical_pack64 {m : Nat} (hm : m ≤ infMag64) (neg : Bool) : NaNIsCanonical (pack64 neg m) :=
  fun h => absurd h (val64_pack64_ne_nan hm neg)

theorem nanIsCanonical_round64 (neg : Bool) (num den : Nat) : NaNIsCanonical (round64 neg num den) :=
  nanIsCanonical_pack64 (roundUnits_le ..) neg

theorem nanIsCanonical_inf64 (neg : Bool) : NaNIsCanonical (inf64 neg) := nanIsCanonical_pack64 le_rfl neg

theorem nanIsCanonical_zero64 (neg : Bool) : NaNIsCanonical (zero64 neg) := nanIsCanonical_pack64 (by decide) neg

theorem nanIsCanonical_ite {p : Prop} [Decidable p] {d e : Dword} (hd : NaNIsCanonical d) (he : NaNIsCanonical e) :
    NaNIsCanonical (if p then d else e) := by
  split_ifs
  · exact hd
  · exact he

theorem nanIsCanonical_fadd64 (x y : Dword) : NaNIsCanonical (fadd64 x y) := by
  unfold fadd64
  split
  · exact .canonNaN64
  · exact .canonNaN64
  · exact nanIsCanonical_ite (nanIsCanonical_inf64 _) .canonNaN64
  · exact nanIsCanonical_inf64 _
  · exact nanIsCanonical_inf64 _
  · exact nanIsCanonical_ite (nanIsCanonical_zero64 _) (nanIsCanonical_round64 _ _ _)

theorem nanIsCanonical_fmul64 (x y : Dword) : NaNIsCanonical (fmul64 x y) := by
  unfold fmul64
  split
  · exact .canonNaN64
  · exact .canonNaN64
  · exact nanIsCanonical_inf64 _
  · exact nanIsCanonical_ite .canonNaN64 (nanIsCanonical_inf64 _)
  · exact nanIsCanonical_ite .canonNaN64 (nanIsCanonical_inf64 _)
  · exact nanIsCanonical_round64 _ _ _

theorem nanIsCanonical_fdiv64 (x y : Dword) : NaNIsCanonical (fdiv64 x y) := by
  unfold fdiv64
  split
  · exact .canonNaN64
  · exact .canonNaN64
  · exact .canonNaN64
  · exact nanIsCanonical_inf64 _
  · exact nanIsCanonical_zero64 _
  · exact nanIsCanonical_ite (nanIsCanonical_ite .canonNaN64 (nanIsCanonical_inf64 _)) (nanIsCanonical_round64 _ _ _)

theorem nanIsCanonical_fsqrt64 (x : Dword) : NaNIsCanonical (fsqrt64 x) := by
  unfold fsqrt64
  split
  · exact .canonNaN64
  · exact nanIsCanonical_ite .canonNaN64 (nanIsCanonical_inf64 _)
  · exact nanIsCanonical_ite (nanIsCanonical_zero64 _)
      (nanIsCanonical_ite .canonNaN64 (nanIsCanonical_pack64 (roundUnits_le ..) _))

theorem nanIsCanonical_guarded_getD {p q : Prop} [Decidable p] [Decidable q] {d e : Dword} (hd : NaNIsCanonical d)
    (he : NaNIsCanonical e) : NaNIsCanonical ((if p then none else if q then some e else none).getD d) := by
  split_ifs
  · exact hd
  · exact he
  · exact hd

/-- The ends of an enclosure round to finite patterns or to the infinity. -/
theorem nanIsCanonical_roundEnclosed_getD {d : Dword} (hd : NaNIsCanonical d) (neg : Bool) (p x margin : Nat) :
    NaNIsCanonical ((roundEnclosed neg p x margin).getD d) :=
  nanIsCanonical_guarded_getD hd (nanIsCanonical_pack64 (roundUnits_le 52 infMag64 _ _) neg)

theorem nanIsCanonical_canonNaN (d : Dword) : NaNIsCanonical (canonNaN d) := by
  unfold canonNaN
  split_ifs with h
  · exact .canonNaN64
  · exact fun hnan => absurd hnan h

theorem nanIsCanonical_lnFree (d : Dword) : NaNIsCanonical (lnFree d) :=
  nanIsCanonical_ite (nanIsCanonical_pack64 (by have := (Config.lnBelowOne d).isLt; unfold infMag64; omega) true)
    (nanIsCanonical_canonNaN _)

theorem nanIsCanonical_cosFree (d : Dword) : NaNIsCanonical (cosFree d) :=
  nanIsCanonical_pack64 (by have := (Config.cosMagnitude d).isLt; unfold infMag64; omega) _

theorem nanIsCanonical_ln64 (f : RealFns) (d : Dword) : NaNIsCanonical (ln64 f d) := by
  unfold ln64
  split
  · exact .canonNaN64
  · exact nanIsCanonical_ite .canonNaN64 (nanIsCanonical_inf64 _)
  · refine nanIsCanonical_ite (nanIsCanonical_inf64 _) (nanIsCanonical_ite .canonNaN64
      (nanIsCanonical_ite (nanIsCanonical_zero64 _) ?_))
    cases f with
    | correctlyRounded => exact nanIsCanonical_roundEnclosed_getD (nanIsCanonical_lnFree d) _ _ _ _
    | other => exact nanIsCanonical_lnFree d

theorem nanIsCanonical_cos64 (f : RealFns) (d : Dword) : NaNIsCanonical (cos64 f d) := by
  unfold cos64
  split
  · exact .canonNaN64
  · exact .canonNaN64
  · refine nanIsCanonical_ite (nanIsCanonical_pack64 (m := 0x3FF0000000000000) (by decide) false) ?_
    cases f with
    | correctlyRounded => exact nanIsCanonical_roundEnclosed_getD (nanIsCanonical_cosFree d) _ _ _ _
    | other => exact nanIsCanonical_cosFree d

/-! `narrow` by the class of its operand (R133). -/

theorem narrow_nan {d : Dword} (h : val64 d = .nan) : narrow d = canonNaN32 := by simp only [narrow, h]

theorem narrow_inf {d : Dword} {a : Bool} (h : val64 d = .inf a) :
    narrow d = BitVec.ofBool a ++ BitVec.ofNat 31 0x7F800000 := by simp only [narrow, h]

theorem narrow_fin {d : Dword} {a : Bool} {u : Nat} (h : val64 d = .fin a u) :
    narrow d = BitVec.ofBool a ++ BitVec.ofNat 31 (roundUnits 23 0x7F800000 u (2 ^ 925)) := by simp only [narrow, h]

theorem val32_sign_append_ne_nan {m : Nat} (hm : m ≤ 0x7F800000) (a : Bool) :
    val32 (BitVec.ofBool a ++ BitVec.ofNat 31 m) ≠ .nan := by
  rw [val32_sign_append (by omega)]
  exact valOfMag_ne_nan hm a

theorem eq_canonNaN32_of_narrow_nan {d : Dword} (h : val32 (narrow d) = .nan) : narrow d = canonNaN32 := by
  cases hd : val64 d with
  | nan => exact narrow_nan hd
  | inf a =>
    rw [narrow_inf hd] at h
    exact absurd h (val32_sign_append_ne_nan le_rfl a)
  | fin a u =>
    rw [narrow_fin hd] at h
    exact absurd h (val32_sign_append_ne_nan (roundUnits_le ..) a)

/-- Settles O47: every branch of every operation is the canonical NaN, an infinity, a zero or a rounded magnitude. -/
theorem nanResultsAreCanonical : Obligations.NaNResultsAreCanonical :=
  ⟨fun x y =>
      ⟨nanIsCanonical_fadd64 x y, nanIsCanonical_fadd64 x _, nanIsCanonical_fmul64 x y, nanIsCanonical_fdiv64 x y⟩,
    fun x => ⟨nanIsCanonical_fsqrt64 x, eq_canonNaN32_of_narrow_nan⟩,
    fun f x => ⟨nanIsCanonical_ln64 f x, nanIsCanonical_cos64 f x⟩⟩

end Sys2Proof.Machine
end

section
/-! Signed zeros (R131). -/

namespace Sys2Proof.Machine

open Sys2Proof

theorem fmul64_zero_left {x y : Dword} {a b : Bool} {u : Nat} (hx : val64 x = .fin a 0) (hy : val64 y = .fin b u) :
    fmul64 x y = zero64 (a ^^ b) := by
  rw [fmul64_fin_fin hx hy, Nat.zero_mul, round64_zero]

theorem fdiv64_zero_left {x y : Dword} {a b : Bool} {u : Nat} (hx : val64 x = .fin a 0) (hy : val64 y = .fin b u)
    (hu : u ≠ 0) : fdiv64 x y = zero64 (a ^^ b) := by
  rw [fdiv64_fin_fin hx hy hu, Nat.zero_mul, round64_zero]

@[simp] theorem fsqrt64_zero64 (a : Bool) : fsqrt64 (zero64 a) = zero64 a := by
  simp [fsqrt64]

theorem narrow_zero64 (a : Bool) : narrow (zero64 a) = BitVec.ofBool a ++ (0 : BitVec 31) := by
  rw [narrow_fin (val64_zero64 a), roundUnits_zero]
  rfl

theorem decodeHalf_zero (a : Bool) : decodeHalf (BitVec.ofBool a ++ 0#15) = BitVec.ofBool a ++ 0#31 := by
  cases a <;> decide

theorem encodeHalf_zero (a : Bool) : encodeHalf (BitVec.ofBool a ++ 0#31) = BitVec.ofBool a ++ 0#15 := by
  cases a <;> decide

theorem widen_zero (a : Bool) : widen (BitVec.ofBool a ++ 0#31) = zero64 a := by
  cases a <;> decide

theorem signedUnits_add_not (a : Bool) (u : Nat) : signedUnits a u + signedUnits (!a) u = 0 := by
  cases a <;> simp [signedUnits]

/-- Values that cancel sum to `+0`. -/
theorem fadd64_cancel {x y : Dword} {a : Bool} {u : Nat} (hx : val64 x = .fin a u) (hy : val64 y = .fin (!a) u) :
    fadd64 x y = zero64 false := by
  rw [fadd64_fin_fin hx hy, signedUnits_add_not]
  simp

theorem fadd64_zero64_self (a : Bool) : fadd64 (zero64 a) (zero64 a) = zero64 a := by
  have hsum : signedUnits a 0 + signedUnits a 0 = 0 := by cases a <;> rfl
  rw [fadd64_fin_fin (val64_zero64 a) (val64_zero64 a), hsum]
  simp

/-- Settles O48. -/
theorem signedZeros : Obligations.SignedZeros := by
  refine ⟨fun x y a b u hx hy => ⟨fmul64_zero_left hx hy, fdiv64_zero_left hx hy⟩, fun a => ?_,
    fun x y a u hx hy => fadd64_cancel hx hy⟩
  exact ⟨fsqrt64_zero64 a, narrow_zero64 a, widen_zero a, encodeHalf_zero a, decodeHalf_zero a, fadd64_zero64_self a,
    fadd64_cancel (val64_zero64 a) (val64_zero64 (!a))⟩

end Sys2Proof.Machine
end

section
/-! `round_away` (R124). -/

namespace Sys2Proof.Machine

open Sys2Proof

/-- A quotient rounded to the nearest integer, halves upwards, by its remainder. -/
theorem div_rounded_half_up {d : Nat} (hd : 0 < d) (u : Nat) :
    (if d ≤ 2 * (u % d) then u / d + 1 else u / d) = (2 * u + d) / (2 * d) := by
  have hrem : u % d < d := Nat.mod_lt u hd
  have hsplit : 2 * u + d = 2 * d * (u / d) + (2 * (u % d) + d) := by
    conv_lhs => rw [← Nat.div_add_mod u d]
    ring
  rw [hsplit, Nat.mul_add_div (by omega)]
  split_ifs with hhalf
  · have hone : (2 * (u % d) + d) / (2 * d) = 1 := Nat.div_eq_of_lt_le (by omega) (by omega)
    rw [hone]
  · have hzero : (2 * (u % d) + d) / (2 * d) = 0 := Nat.div_eq_of_lt (by omega)
    rw [hzero, Nat.add_zero]

theorem roundAwayMag_eq (u : Nat) : roundAwayMag u = (2 * u + 2 ^ 1074) / 2 ^ 1075 := by
  have htwice : (2 : Nat) ^ 1075 = 2 * 2 ^ 1074 := by simp only [← pow_succ', Nat.reduceAdd]
  rw [htwice, ← div_rounded_half_up (by positivity), roundAwayMag]

/-- Settles O35. -/
theorem roundAwayIsNearestAwayFromZero : Obligations.RoundAwayIsNearestAwayFromZero := by
  refine fun d => ⟨fun a u h => ?_, fun a h => by simp only [roundAway, h], fun h => by simp only [roundAway, h]⟩
  simp only [roundAway, h, roundAwayMag_eq, signedUnits, Int.le_sub_one_iff]

end Sys2Proof.Machine
end

section
/-! `narrow` (R133) -/

namespace Sys2Proof.Machine

open Sys2Proof

/-- A finite pattern by its fields, in one equation for normal and subnormal values (R102). -/
theorem units_of_fields64 {d : Dword} {a : Bool} {u : Nat} (h : val64 d = .fin a u) :
    u = (if (d.extractLsb' 52 11).toNat = 0 then (d.extractLsb' 0 52).toNat
      else 2 ^ 52 + (d.extractLsb' 0 52).toNat) * 2 ^ ((d.extractLsb' 52 11).toNat - 1) := by
  unfold val64 valOf at h
  split_ifs at h with htop hf
  obtain ⟨-, rfl⟩ := FpVal.fin.inj h
  unfold unitsOf
  split_ifs with he
  · rw [he, Nat.zero_sub, pow_zero, Nat.mul_one]
  · rfl

/-- The integer terms of R133: a normal operand rounds by the 29 bits that are cut off. -/
theorem roundsTo_narrow_normal {j keep rem : Nat} (hkeep : keep < 2 ^ 23) (hrem : rem < 2 ^ 29) :
    RoundsTo 23 ((2 ^ 52 + (2 ^ 29 * keep + rem)) * 2 ^ (j + 896)) (2 ^ 925)
      (if 0x10000000 < rem ∨ (rem = 0x10000000 ∧ keep % 2 = 1) then (j + 1) * 2 ^ 23 + keep + 1
        else (j + 1) * 2 ^ 23 + keep) := by
  have hsig : (j + 1) * 2 ^ 23 + keep = j * 2 ^ 23 + (2 ^ 23 + keep) := by ring
  have hscale : (2 : Nat) ^ 925 * 2 ^ j = 2 ^ 29 * 2 ^ (j + 896) := by
    rw [← Nat.pow_add, ← Nat.pow_add]
    congr 1
    omega
  have hval : ∀ n, n ≤ 2 ^ 24 → 2 ^ 23 ≤ n →
      2 ^ 925 * unitsOfMag 23 (j * 2 ^ 23 + n) = n * 2 ^ 29 * 2 ^ (j + 896) := fun n hn hn' => by
    rw [unitsOfMag_significand hn (.inr hn'), Nat.mul_left_comm, hscale, Nat.mul_assoc]
  have hlo := hval (2 ^ 23 + keep) (by omega) (by omega)
  have hhi := hval (2 ^ 23 + keep + 1) (by omega) (by omega)
  rw [← Nat.add_assoc (j * 2 ^ 23), ← hsig] at hhi
  rw [← hsig] at hlo
  have hpos : 0 < 2 ^ (j + 896) := by positivity
  generalize 2 ^ (j + 896) = g at *
  have h := roundsTo_of_between (fbits := 23) (den := 2 ^ 925) (m := (j + 1) * 2 ^ 23 + keep)
    (num := (2 ^ 52 + (2 ^ 29 * keep + rem)) * g)
    (by rw [hlo]; exact Nat.mul_le_mul_right _ (by omega))
    (by rw [hhi]; exact Nat.mul_lt_mul_of_pos_right (by omega) hpos)
  simp only [Nat.mul_add (2 ^ 925), hlo, hhi, ← Nat.add_mul, ← Nat.mul_assoc 2, Nat.mul_lt_mul_right hpos,
    Nat.mul_left_inj hpos.ne'] at h
  convert h using 2
  omega

theorem roundsTo_zero {fbits num den : Nat} (h : 2 * num ≤ den) : RoundsTo fbits num den 0 where
  lower := by simp
  lowerTie _ := rfl
  upper := by simpa [unitsOfMag_succ] using h
  upperTie _ := rfl

/-- `narrow` of a finite value is the binary32 pattern it rounds to, unless that lies beyond the infinity (R133). -/
theorem narrow_of_roundsTo {d : Dword} {a : Bool} {u m : Nat} (h : val64 d = .fin a u) (hm : RoundsTo 23 u (2 ^ 925) m)
    (hle : m ≤ 0x7F800000) : narrow d = BitVec.ofBool a ++ BitVec.ofNat 31 m := by
  rw [narrow_fin h, hm.roundUnits_eq (by decide) (by positivity), Nat.min_eq_left hle]

theorem narrow_overflow {d : Dword} {a : Bool} {u : Nat} (h : val64 d = .fin a u)
    (hu : (2 ^ 128 - 2 ^ 103) * 2 ^ 1074 ≤ u) : narrow d = BitVec.ofBool a ++ BitVec.ofNat 31 0x7F800000 := by
  obtain ⟨-, hoverflow, -⟩ :=
    nearestMag_roundUnits (fbits := 23) (top := 255) (den := 2 ^ 925) (by decide) (by decide) (by positivity) u
  have hlimit : 2 ^ 925 * ((2 ^ (23 + 2) - 1) * 2 ^ (255 - 3)) ≤ u := by
    have hscale : (2 : Nat) ^ 1074 = 2 ^ 925 * 2 ^ 149 := by simp only [← pow_add, Nat.reduceAdd]
    have hlimit32 : (2 ^ (23 + 2) - 1) * 2 ^ (255 - 3) = (2 ^ 128 - 2 ^ 103) * 2 ^ 149 := by decide
    rwa [hlimit32, Nat.mul_left_comm, ← hscale]
  rw [narrow_fin h, show 0x7F800000 = 255 * 2 ^ 23 from rfl, hoverflow.2 hlimit]

theorem narrow_underflow {d : Dword} {a : Bool} {u : Nat} (h : val64 d = .fin a u) (hu : u ≤ 2 ^ 924) :
    narrow d = BitVec.ofBool a ++ BitVec.ofNat 31 0 :=
  narrow_of_roundsTo h (roundsTo_zero (by have := pow_succ' 2 924; omega)) (by decide)

theorem narrow_normal {d : Dword} {a : Bool} {u : Nat} (h : val64 d = .fin a u)
    (hlo : 897 ≤ (d.extractLsb' 52 11).toNat) (hhi : (d.extractLsb' 52 11).toNat ≤ 1150) :
    let keep := (d.extractLsb' 0 52).toNat / 2 ^ 29
    let rem := (d.extractLsb' 0 52).toNat % 2 ^ 29
    let mag := ((d.extractLsb' 52 11).toNat - 896) * 2 ^ 23 + keep
    narrow d = BitVec.ofBool a ++
      BitVec.ofNat 31 (if 0x10000000 < rem ∨ (rem = 0x10000000 ∧ keep % 2 = 1) then mag + 1 else mag) := by
  intro keep rem mag
  have hunits := units_of_fields64 h
  have hkeep : keep < 2 ^ 23 := Nat.div_lt_of_lt_mul (d.extractLsb' 0 52).isLt
  have hrem : rem < 2 ^ 29 := Nat.mod_lt _ (by decide)
  have hsplit : (d.extractLsb' 0 52).toNat = 2 ^ 29 * keep + rem := (Nat.div_add_mod ..).symm
  obtain ⟨j, hj⟩ := Nat.exists_eq_add_of_le' hlo
  rw [if_neg (by omega), hsplit, hj, Nat.add_sub_assoc (by decide)] at hunits
  have hround := roundsTo_narrow_normal (j := j) hkeep hrem
  have hmag : mag = (j + 1) * 2 ^ 23 + keep := by show _ + keep = _; omega
  rw [← hmag] at hround
  rw [hunits] at h
  exact narrow_of_roundsTo h hround (by split_ifs <;> omega)

/-- Settles O50. -/
theorem narrowIsTheNearestBinary32 : Obligations.NarrowIsTheNearestBinary32 := by
  refine ⟨fun d a u h => ⟨⟨_, narrow_fin h, ?nearest⟩, narrow_overflow h, narrow_underflow h, ?terms⟩,
    fun d a h => narrow_inf h, fun d h => narrow_nan h⟩
  case nearest => exact nearestMag_roundUnits (by decide) (by decide) (by positivity) u
  case terms =>
    intro e f keep rem mag hlo hhi
    have hmag : mag = (e - 896) * 2 ^ 23 + keep := by show _ + keep = _; omega
    rw [hmag]
    exact narrow_normal h (by omega) hhi

end Sys2Proof.Machine
end

section
/-! The square root (R129): the bitwise integer root, and the half step that stands for its inexact part. -/

namespace Sys2Proof.Machine

open Sys2Proof

theorem isqrtBits_eq_sqrt {k n r : Nat} (hlo : r * r ≤ n) (hhi : n < (r + 2 ^ k) * (r + 2 ^ k)) :
    isqrtBits k n r = Nat.sqrt n := by
  induction k generalizing r with
  | zero => exact Nat.eq_sqrt.2 ⟨hlo, hhi⟩
  | succ k ih =>
    rw [isqrtBits]
    split_ifs with hbit
    · exact ih hbit (by rwa [Nat.add_assoc, ← Nat.two_mul, ← Nat.pow_succ'])
    · exact ih hlo (Nat.lt_of_not_le hbit)

/-- Twice the root of `t`, an odd number for an inexact one. -/
def twiceRoot (t : Nat) : Nat := if t.sqrt * t.sqrt = t then 2 * t.sqrt else 2 * t.sqrt + 1

theorem two_mul_sqrt_le_twiceRoot (t : Nat) : 2 * t.sqrt ≤ twiceRoot t := by
  unfold twiceRoot
  split_ifs <;> omega

theorem twiceRoot_le (t : Nat) : twiceRoot t ≤ 2 * t.sqrt + 1 := by
  unfold twiceRoot
  split_ifs <;> omega

/-- An integer at most half of `twiceRoot t` is at most the root. -/
theorem mul_self_le_of_le_twiceRoot {j t : Nat} (h : 2 * j ≤ twiceRoot t) : j * j ≤ t := by
  have := twiceRoot_le t
  exact Nat.le_sqrt.1 (by omega)

/-- An integer at least half of `twiceRoot t` is at least the root. -/
theorem le_mul_self_of_twiceRoot_le {j t : Nat} (h : twiceRoot t ≤ 2 * j) : t ≤ j * j := by
  unfold twiceRoot at h
  split_ifs at h with hexact
  · rw [← hexact]
    exact Nat.mul_le_mul (by omega) (by omega)
  · exact (Nat.sqrt_lt.1 (by omega)).le

/-- The radicand of `m * 2^e` units with the power of two made even. -/
def radicand (m e : Nat) : Nat := if (e + 1074) % 2 = 1 then 2 * m else m

/-- The square root of `m * 2^e` units is that of the radicand, times a power of two. -/
theorem radicand_mul_sq (m e : Nat) : radicand m e * (2 ^ ((e + 1074) / 2)) ^ 2 = m * 2 ^ e * 2 ^ 1074 := by
  rw [Nat.mul_assoc, ← Nat.pow_add, ← Nat.pow_mul]
  unfold radicand
  split_ifs with hodd
  · rw [Nat.mul_comm 2 m, Nat.mul_assoc, ← Nat.pow_succ']
    congr 2
    omega
  · congr 2
    omega

theorem le_radicand (m e : Nat) : m ≤ radicand m e := by
  unfold radicand
  split_ifs <;> omega

theorem radicand_le (m e : Nat) : radicand m e ≤ 2 * m := by
  unfold radicand
  split_ifs <;> omega

theorem sqrtMag_eq {m e : Nat} (hm : m < 2 ^ 53) : sqrtMag m e =
    roundUnits 52 infMag64 (twiceRoot (radicand m e * 2 ^ 128) * 2 ^ ((e + 1074) / 2)) (2 ^ 65) := by
  have hbound : radicand m e * 2 ^ 128 < (0 + 2 ^ 92) * (0 + 2 ^ 92) := by
    have := radicand_le m e
    omega
  have hroot := isqrtBits_eq_sqrt (Nat.zero_le (radicand m e * 2 ^ 128)) hbound
  rw [twiceRoot, ← hroot]
  rfl

/-! The midpoints around the rounded root. A midpoint `2^k * c` near the root is so coarse a multiple that the half step
of `twiceRoot` cannot cross it. -/

theorem midpoint_sq_le {k c n : Nat} (h : 2 ^ 64 * (2 ^ k * c) ≤ twiceRoot (n * 2 ^ 128) * 2 ^ (k + 54)) :
    (2 ^ k * c) ^ 2 ≤ 4 * (n * (2 ^ (k + 54)) ^ 2) := by
  have hcoarse : 2 ^ 64 * (2 ^ k * c) = 2 * (2 ^ 9 * c) * 2 ^ (k + 54) := by ring
  rw [hcoarse] at h
  have hsq := mul_self_le_of_le_twiceRoot (Nat.le_of_mul_le_mul_right h (by positivity))
  calc (2 ^ k * c) ^ 2 = c * c * (2 ^ k) ^ 2 := by ring
    _ ≤ n * 2 ^ 110 * (2 ^ k) ^ 2 := Nat.mul_le_mul_right _ (by linarith)
    _ = 4 * (n * (2 ^ (k + 54)) ^ 2) := by ring

theorem le_midpoint_sq {k c n : Nat} (h : twiceRoot (n * 2 ^ 128) * 2 ^ (k + 54) ≤ 2 ^ 64 * (2 ^ k * c)) :
    4 * (n * (2 ^ (k + 54)) ^ 2) ≤ (2 ^ k * c) ^ 2 := by
  have hcoarse : 2 ^ 64 * (2 ^ k * c) = 2 * (2 ^ 9 * c) * 2 ^ (k + 54) := by ring
  rw [hcoarse] at h
  have hsq := le_mul_self_of_twiceRoot_le (Nat.le_of_mul_le_mul_right h (by positivity))
  calc 4 * (n * (2 ^ (k + 54)) ^ 2) = n * 2 ^ 110 * (2 ^ k) ^ 2 := by ring
    _ ≤ c * c * (2 ^ k) ^ 2 := Nat.mul_le_mul_right _ (by linarith)
    _ = (2 ^ k * c) ^ 2 := by ring

section
variable {k n m : Nat}

/-- The rounded root lies at least in the binade of `2^(k+54)` units, or next to it. -/
theorem le_of_roundsTo_twiceRoot (hn : 1 ≤ n)
    (h : RoundsTo 52 (twiceRoot (n * 2 ^ 128) * 2 ^ (k + 54)) (2 ^ 65) m) : (k + 2 + 1) * 2 ^ 52 ≤ m + 1 := by
  have hroot : 2 ^ 64 ≤ (n * 2 ^ 128).sqrt := Nat.le_sqrt.2 (by omega)
  have htwice := two_mul_sqrt_le_twiceRoot (n * 2 ^ 128)
  have hmono := (unitsOfMag_strictMono 52).monotone (Nat.le_succ m)
  have hup := h.upper
  have hscaled : 2 ^ 65 * 2 ^ (k + 54) ≤ twiceRoot (n * 2 ^ 128) * 2 ^ (k + 54) := Nat.mul_le_mul_right _ (by omega)
  rw [← (unitsOfMag_strictMono 52).le_iff_le, unitsOfMag_exponent, show 52 + (k + 2) = k + 54 by omega]
  rw [Nat.succ_eq_add_one] at hmono
  omega

theorem sq_midpoints_of_roundsTo_twiceRoot (hn : 1 ≤ n)
    (h : RoundsTo 52 (twiceRoot (n * 2 ^ 128) * 2 ^ (k + 54)) (2 ^ 65) m) :
    (unitsOfMag 52 m + unitsOfMag 52 (m - 1)) ^ 2 ≤ 4 * (n * (2 ^ (k + 54)) ^ 2) ∧
      4 * (n * (2 ^ (k + 54)) ^ 2) ≤ (unitsOfMag 52 m + unitsOfMag 52 (m + 1)) ^ 2 := by
  have hm := le_of_roundsTo_twiceRoot hn h
  have hbelow : (k + 1) * 2 ^ 52 ≤ m - 1 := Nat.le_sub_of_add_le (by linarith)
  obtain ⟨b, hb⟩ := two_pow_dvd_unitsOfMag hbelow
  obtain ⟨c, hc⟩ := two_pow_dvd_unitsOfMag (hbelow.trans (Nat.sub_le m 1))
  obtain ⟨d, hd⟩ := two_pow_dvd_unitsOfMag (hbelow.trans ((Nat.sub_le m 1).trans (Nat.le_succ m)))
  have hlow := h.lower
  have hup := h.upper
  rw [hb, hc, ← Nat.mul_add] at hlow
  rw [hc, hd, ← Nat.mul_add] at hup
  rw [hb, hc, hd, ← Nat.mul_add, ← Nat.mul_add, Nat.add_comm c b]
  exact ⟨midpoint_sq_le (by omega), le_midpoint_sq (by omega)⟩

/-- A root stays far below the overflow. -/
theorem lt_infMag64_of_roundsTo_twiceRoot (hn : n < 2 ^ 54) (hk : k ≤ 1505)
    (h : RoundsTo 52 (twiceRoot (n * 2 ^ 128) * 2 ^ (k + 54)) (2 ^ 65) m) : m < infMag64 := by
  have htwice := twiceRoot_le (n * 2 ^ 128)
  have hroot : (n * 2 ^ 128).sqrt < 2 ^ 91 := Nat.sqrt_lt.2 (by omega)
  have hlow := h.lower
  have hscaled : twiceRoot (n * 2 ^ 128) * 2 ^ (k + 54) ≤ 2 ^ 92 * 2 ^ (k + 54) := Nat.mul_le_mul_right _ (by omega)
  have hbound : unitsOfMag 52 m ≤ 2 ^ 28 * 2 ^ (k + 54) := by omega
  have hpow : 2 ^ 28 * 2 ^ (k + 54) < 2 ^ (52 + 2046) := by
    rw [← Nat.pow_add, Nat.pow_lt_pow_iff_right (by decide)]
    omega
  rw [← (unitsOfMag_strictMono 52).lt_iff_lt]
  exact (hbound.trans_lt hpow).trans_eq (unitsOfMag_exponent 52 2046).symm

end

/-- R129 for a positive finite operand, by its significand and exponent. -/
theorem sqrtMag_correctlyRounded {m e : Nat} (hpos : 0 < m) (hm : m < 2 ^ 53) (he : e ≤ 2045) :
    0 < sqrtMag m e ∧ sqrtMag m e < infMag64 ∧
      (unitsOfMag 52 (sqrtMag m e) + unitsOfMag 52 (sqrtMag m e - 1)) ^ 2 ≤ 4 * (m * 2 ^ e * 2 ^ 1074) ∧
      4 * (m * 2 ^ e * 2 ^ 1074) ≤ (unitsOfMag 52 (sqrtMag m e) + unitsOfMag 52 (sqrtMag m e + 1)) ^ 2 := by
  obtain ⟨k, hk⟩ : ∃ k, (e + 1074) / 2 = k + 54 := ⟨(e + 1074) / 2 - 54, by omega⟩
  have hn : 1 ≤ radicand m e := hpos.trans_le (le_radicand m e)
  have hn' : radicand m e < 2 ^ 54 := by have := radicand_le m e; omega
  obtain ⟨r, hr, hround⟩ := exists_roundsTo_roundUnits (fbits := 52) (den := 2 ^ 65) (by decide) (by positivity)
    infMag64 (twiceRoot (radicand m e * 2 ^ 128) * 2 ^ (k + 54))
  have hlt := lt_infMag64_of_roundsTo_twiceRoot hn' (by omega) hr
  have hle := le_of_roundsTo_twiceRoot hn hr
  rw [Nat.min_eq_left hlt.le, ← hk, ← sqrtMag_eq hm] at hround
  rw [← radicand_mul_sq, hround, hk]
  exact ⟨by omega, hlt, sq_midpoints_of_roundsTo_twiceRoot hn hr⟩

/-! `fsqrt64` by the class of its operand. -/

theorem fsqrt64_nan {x : Dword} (h : val64 x = .nan) : fsqrt64 x = canonNaN64 := by simp only [fsqrt64, h]

theorem fsqrt64_inf64 (a : Bool) : fsqrt64 (inf64 a) = if a then canonNaN64 else inf64 false := by
  simp only [fsqrt64, val64_inf64]

theorem fsqrt64_negative {x : Dword} {u : Nat} (h : val64 x = .fin true u) (hu : u ≠ 0) : fsqrt64 x = canonNaN64 := by
  simp only [fsqrt64, h, if_neg hu, if_true]

theorem fsqrt64_positive {x : Dword} {u : Nat} (h : val64 x = .fin false u) (hu : u ≠ 0) :
    fsqrt64 x = pack64 false (sqrtMag (if (x.extractLsb' 52 11).toNat = 0 then (x.extractLsb' 0 52).toNat
      else 2 ^ 52 + (x.extractLsb' 0 52).toNat) ((x.extractLsb' 52 11).toNat - 1)) := by
  simp only [fsqrt64, h, if_neg hu, Bool.false_eq_true, if_false]

theorem exponent_ne_of_val64_fin {x : Dword} {a : Bool} {u : Nat} (h : val64 x = .fin a u) :
    (x.extractLsb' 52 11).toNat ≠ 2047 := by
  intro htop
  unfold val64 valOf at h
  rw [if_pos htop] at h
  split_ifs at h

/-- Settles O49. -/
theorem sqrtIsCorrectlyRounded : Obligations.SqrtIsCorrectlyRounded := by
  refine ⟨fun x u h hu => ⟨_, fsqrt64_positive h hu, ?rounded⟩, fsqrt64_zero64 false, fsqrt64_zero64 true,
    fsqrt64_inf64 false, fsqrt64_inf64 true, fun x h => fsqrt64_nan h, fun x u h hu => fsqrt64_negative h hu⟩
  case rounded =>
    have hunits := units_of_fields64 h
    have htop := exponent_ne_of_val64_fin h
    have hfrac := (x.extractLsb' 0 52).isLt
    have hexp := (x.extractLsb' 52 11).isLt
    generalize (x.extractLsb' 52 11).toNat = e at *
    generalize (x.extractLsb' 0 52).toNat = f at *
    have hsig : (if e = 0 then f else 2 ^ 52 + f) < 2 ^ 53 := by split_ifs <;> omega
    rw [hunits] at hu ⊢
    exact sqrtMag_correctlyRounded (Nat.pos_of_ne_zero (Nat.ne_zero_of_mul_ne_zero_left hu)) hsig (by omega)

end Sys2Proof.Machine
end

section
/-! Finite values in a wider format (R132, R160). -/

namespace Sys2Proof.Machine

open Sys2Proof

/-! Bits put together: disjoint bits add up. -/

theorem mul_two_pow_or {w b : Nat} (a : Nat) (hb : b < 2 ^ w) : a * 2 ^ w ||| b = a * 2 ^ w + b := by
  rw [Nat.mul_comm, ← Nat.two_pow_add_eq_or_of_lt hb]

theorem sign_or {w n : Nat} (a : Bool) (hn : n < 2 ^ w) :
    (BitVec.ofBool a ++ 0#w) ||| BitVec.ofNat (1 + w) n = BitVec.ofBool a ++ BitVec.ofNat w n := by
  apply BitVec.eq_of_toNat_eq
  rw [toNat_sign_append a hn, BitVec.toNat_or, append_toNat, BitVec.toNat_ofBool, BitVec.toNat_ofNat,
    BitVec.toNat_ofNat, Nat.zero_mod, Nat.add_zero,
    Nat.mod_eq_of_lt (hn.trans_le (Nat.pow_le_pow_right (by decide) (by omega))), mul_two_pow_or _ hn]

/-- Forcing the quiet bit of a binary16 fraction. -/
theorem or_quietBit {m : Nat} (hm : m < 2 ^ 10) : 2 ^ 9 ||| m = 2 ^ 9 + m % 2 ^ 9 := by
  have hrem : m % 2 ^ 9 < 2 ^ 9 := Nat.mod_lt _ (by decide)
  have hm' : m = m / 2 ^ 9 * 2 ^ 9 ||| m % 2 ^ 9 := by rw [mul_two_pow_or _ hrem]; omega
  have hbit : 2 ^ 9 ||| m / 2 ^ 9 * 2 ^ 9 = 1 * 2 ^ 9 := by
    obtain h | h : m / 2 ^ 9 = 0 ∨ m / 2 ^ 9 = 1 := by omega
    · rw [h]; rfl
    · rw [h]; rfl
  conv_lhs => rw [hm']
  rw [← Nat.or_assoc, hbit, mul_two_pow_or _ hrem, Nat.one_mul]

/-! Normalising a subnormal fraction. -/

/-- The fraction shifted until its leading bit is the hidden bit of `p` fraction bits. -/
theorem normalised_bounds {f p : Nat} (hf : f ≠ 0) (hp : Nat.log2 f ≤ p) :
    2 ^ p ≤ f * 2 ^ (p - Nat.log2 f) ∧ f * 2 ^ (p - Nat.log2 f) < 2 ^ (p + 1) := by
  have hsplit : 2 ^ p = 2 ^ Nat.log2 f * 2 ^ (p - Nat.log2 f) := by rw [← Nat.pow_add, Nat.add_sub_cancel' hp]
  have hsucc : 2 ^ (p + 1) = 2 ^ (Nat.log2 f + 1) * 2 ^ (p - Nat.log2 f) := by
    rw [← Nat.pow_add]
    congr 1
    omega
  rw [hsucc]
  refine ⟨?_, Nat.mul_lt_mul_of_pos_right Nat.lt_log2_self (by positivity)⟩
  rw [hsplit]
  exact Nat.mul_le_mul_right _ (Nat.log2_self_le hf)

/-! The pattern of a value in a wider format. -/

/-- The magnitude pattern, with `more` more fraction bits and exponent fields `bias` higher, of the value of the finite
pattern `mag`: what `decode` and `widen` put together (R132, R160). -/
def widerMag (fbits bias more mag : Nat) : Nat :=
  if mag = 0 then 0
  else if mag < 2 ^ fbits then
    (Nat.log2 mag + (bias + 1 - fbits)) * 2 ^ (fbits + more) +
      (mag * 2 ^ (fbits + more - Nat.log2 mag) - 2 ^ (fbits + more))
  else (mag / 2 ^ fbits + bias) * 2 ^ (fbits + more) + mag % 2 ^ fbits * 2 ^ more

section
variable {fbits bias more mag : Nat}

theorem widerMag_zero (fbits bias more : Nat) : widerMag fbits bias more 0 = 0 := if_pos rfl

theorem widerMag_subnormal (hm : mag ≠ 0) (hlt : mag < 2 ^ fbits) : widerMag fbits bias more mag =
    (Nat.log2 mag + (bias + 1 - fbits)) * 2 ^ (fbits + more) +
      (mag * 2 ^ (fbits + more - Nat.log2 mag) - 2 ^ (fbits + more)) := by
  rw [widerMag, if_neg hm, if_pos hlt]

theorem widerMag_normal (hle : 2 ^ fbits ≤ mag) : widerMag fbits bias more mag =
    (mag / 2 ^ fbits + bias) * 2 ^ (fbits + more) + mag % 2 ^ fbits * 2 ^ more := by
  have hpos : 0 < 2 ^ fbits := by positivity
  rw [widerMag, if_neg (by omega), if_neg (by omega)]

/-- The wider pattern has the same value: its unit is `2^(bias + more)` times as small. -/
theorem unitsOfMag_widerMag (hbias : fbits ≤ bias) :
    unitsOfMag (fbits + more) (widerMag fbits bias more mag) = unitsOfMag fbits mag * 2 ^ (bias + more) := by
  obtain rfl | hm := eq_or_ne mag 0
  · simp [widerMag_zero]
  obtain hlt | hle := lt_or_ge mag (2 ^ fbits)
  · have hlog := (Nat.log2_lt hm).2 hlt
    obtain ⟨hlo, hhi⟩ := normalised_bounds (p := fbits + more) hm (by omega)
    have hsig : (Nat.log2 mag + (bias + 1 - fbits)) * 2 ^ (fbits + more) +
        (mag * 2 ^ (fbits + more - Nat.log2 mag) - 2 ^ (fbits + more)) =
        (Nat.log2 mag + (bias - fbits)) * 2 ^ (fbits + more) + mag * 2 ^ (fbits + more - Nat.log2 mag) := by
      rw [show Nat.log2 mag + (bias + 1 - fbits) = Nat.log2 mag + (bias - fbits) + 1 by omega, Nat.succ_mul]
      omega
    have hunits := unitsOfMag_significand (fbits := fbits) (q := 0) (n := mag) (by rw [Nat.pow_succ]; omega) (.inl rfl)
    rw [Nat.zero_mul, Nat.zero_add, pow_zero, Nat.mul_one] at hunits
    rw [widerMag_subnormal hm hlt, hsig, unitsOfMag_significand hhi.le (.inr hlo), hunits, Nat.mul_assoc,
      ← Nat.pow_add]
    congr 2
    omega
  · obtain ⟨e, he⟩ : ∃ e, mag / 2 ^ fbits = e + 1 :=
      Nat.exists_eq_add_of_le' ((Nat.one_le_div_iff (by positivity)).2 hle)
    have hf : mag % 2 ^ fbits < 2 ^ fbits := Nat.mod_lt _ (by positivity)
    have hsig : (e + 1 + bias) * 2 ^ (fbits + more) + mag % 2 ^ fbits * 2 ^ more =
        (e + bias) * 2 ^ (fbits + more) + (2 ^ fbits + mag % 2 ^ fbits) * 2 ^ more := by ring
    have hlo : 2 ^ (fbits + more) ≤ (2 ^ fbits + mag % 2 ^ fbits) * 2 ^ more := by
      rw [Nat.pow_add]
      exact Nat.mul_le_mul_right _ (by omega)
    have hhi : (2 ^ fbits + mag % 2 ^ fbits) * 2 ^ more ≤ 2 ^ (fbits + more + 1) := by
      rw [show fbits + more + 1 = fbits + 1 + more by omega, Nat.pow_add _ _ more, Nat.pow_succ]
      exact Nat.mul_le_mul_right _ (by omega)
    rw [widerMag_normal hle, he, hsig, unitsOfMag_significand hhi (.inr hlo), unitsOfMag, he, unitsOf,
      if_neg (Nat.succ_ne_zero e), Nat.add_sub_cancel]
    ring

/-- A finite pattern stays below the wider format's exponent field that its own infinity would be shifted to. -/
theorem widerMag_lt {top : Nat} (hbias : fbits ≤ bias) (htop : 1 ≤ top) (h : mag < top * 2 ^ fbits) :
    widerMag fbits bias more mag < (top + bias) * 2 ^ (fbits + more) := by
  obtain ⟨t, rfl⟩ := Nat.exists_eq_add_of_le' htop
  have hunits := unitsOfMag_strictMono fbits h
  rw [unitsOfMag_exponent] at hunits
  rw [← (unitsOfMag_strictMono (fbits + more)).lt_iff_lt, unitsOfMag_widerMag hbias,
    show t + 1 + bias = t + bias + 1 by omega, unitsOfMag_exponent,
    show fbits + more + (t + bias) = fbits + t + (bias + more) by omega, Nat.pow_add _ (fbits + t)]
  exact Nat.mul_lt_mul_of_pos_right hunits (by positivity)

end

/-- The values of binary16 in binary32 (R160). -/
theorem unitsOfMag_decode (mag : Nat) : unitsOfMag 23 (widerMag 10 112 13 mag) = unitsOfMag 10 mag * 2 ^ 125 :=
  unitsOfMag_widerMag (fbits := 10) (bias := 112) (more := 13) (by decide)

/-- The values of binary32 in binary64 (R132). -/
theorem unitsOfMag_widen (mag : Nat) : unitsOfMag 52 (widerMag 23 896 29 mag) = unitsOfMag 23 mag * 2 ^ 925 := by
  simpa only [Nat.reduceAdd] using unitsOfMag_widerMag (fbits := 23) (bias := 896) (more := 29) (mag := mag) (by decide)

theorem widerMag_decode_lt {mag : Nat} (hm : mag < 31 * 2 ^ 10) : widerMag 10 112 13 mag < 255 * 2 ^ 23 :=
  (widerMag_lt (by decide) (by decide) hm).trans (by decide)

theorem widerMag_widen_lt {mag : Nat} (hm : mag < 255 * 2 ^ 23) : widerMag 23 896 29 mag < infMag64 :=
  (widerMag_lt (by decide) (by decide) hm).trans (by decide)

end Sys2Proof.Machine
end

section
/-! `decode` (R160), `widen` (R132) and `encode` (R150) on a sign and a magnitude pattern, for the values of binary16. -/

namespace Sys2Proof.Machine

open Sys2Proof

/-! `decode` -/

/-- The fields of a binary16 pattern. -/
theorem fields16 {mag : Nat} (hm : mag < 2 ^ 15) (a : Bool) :
    let h : Half := BitVec.ofBool a ++ BitVec.ofNat 15 mag
    h.msb = a ∧ (h.extractLsb' 10 5).toNat = mag / 2 ^ 10 ∧ (h.extractLsb' 0 10).toNat = mag % 2 ^ 10 :=
  ⟨msb_sign_append a _, exponent_sign_append (ebits := 5) a hm rfl, fraction_sign_append (ebits := 5) a hm rfl⟩

/-- The fields of a binary32 pattern. -/
theorem fields32 {mag : Nat} (hm : mag < 2 ^ 31) (a : Bool) :
    let x : Word := BitVec.ofBool a ++ BitVec.ofNat 31 mag
    x.msb = a ∧ (x.extractLsb' 23 8).toNat = mag / 2 ^ 23 ∧ (x.extractLsb' 0 23).toNat = mag % 2 ^ 23 :=
  ⟨msb_sign_append a _, exponent_sign_append (ebits := 8) a hm rfl, fraction_sign_append (ebits := 8) a hm rfl⟩

theorem decodeHalf_infinity (a : Bool) :
    decodeHalf (BitVec.ofBool a ++ BitVec.ofNat 15 0x7C00) = BitVec.ofBool a ++ BitVec.ofNat 31 0x7F800000 := by
  cases a <;> decide

theorem and_fractionMask32 (n : Nat) : BitVec.ofNat 32 n &&& 0x7FFFFF = BitVec.ofNat 32 (n % 2 ^ 23) := by
  rw [← Nat.and_two_pow_sub_one_eq_mod, BitVec.ofNat_and]
  rfl

theorem decodeHalf_finite {mag : Nat} (hm : mag < 31 * 2 ^ 10) (a : Bool) :
    decodeHalf (BitVec.ofBool a ++ BitVec.ofNat 15 mag) =
      BitVec.ofBool a ++ BitVec.ofNat 31 (widerMag 10 112 13 mag) := by
  obtain rfl | hne := eq_or_ne mag 0
  · exact decodeHalf_zero a
  obtain ⟨hs, he, hf⟩ := fields16 (mag := mag) (by omega) a
  unfold decodeHalf
  rw [hs, he, hf]
  obtain hlt | hle := lt_or_ge mag (2 ^ 10)
  · have hlog := (Nat.log2_lt hne).2 hlt
    obtain ⟨hlo, hhi⟩ := normalised_bounds (p := 23) hne (by omega)
    rw [widerMag_subnormal hne hlt, Nat.mod_eq_of_lt hlt, if_neg (by omega), if_neg (by omega), if_neg (by omega),
      if_pos (by omega), BitVec.or_assoc, and_fractionMask32, ← BitVec.ofNat_or,
      mul_two_pow_or _ (Nat.mod_lt _ (by decide)),
      Nat.mod_eq_sub_mod hlo, Nat.mod_eq_of_lt (by omega)]
    exact sign_or a (by omega)
  · rw [widerMag_normal hle, if_neg (by omega), if_neg (by omega), if_neg (by omega), if_neg (by omega),
      BitVec.or_assoc, ← BitVec.ofNat_or, mul_two_pow_or _ (by omega)]
    exact sign_or a (by omega)

/-- A NaN keeps its fraction in the top bits of the wider one, the quiet bit forced (R160). -/
theorem decodeHalf_nan {mag : Nat} (he : mag / 2 ^ 10 = 31) (hf : mag % 2 ^ 10 ≠ 0) (a : Bool) :
    decodeHalf (BitVec.ofBool a ++ BitVec.ofNat 15 mag) =
      BitVec.ofBool a ++ BitVec.ofNat 31 (255 * 2 ^ 23 + (2 ^ 9 + mag % 2 ^ 9) * 2 ^ 13) := by
  obtain ⟨hs, he', hf'⟩ := fields16 (mag := mag) (by omega) a
  have hquiet : 0x00400000 ||| mag % 2 ^ 10 * 2 ^ 13 = (2 ^ 9 + mag % 2 ^ 9) * 2 ^ 13 := by
    rw [show 0x00400000 = 2 ^ 9 <<< 13 from rfl, ← Nat.shiftLeft_eq, ← Nat.shiftLeft_or_distrib,
      or_quietBit (Nat.mod_lt _ (by decide)), Nat.mod_mod_of_dvd _ (by decide), Nat.shiftLeft_eq]
  have hbits : BitVec.ofNat 32 (255 * 2 ^ 23) |||
      (BitVec.ofNat 32 0x00400000 ||| BitVec.ofNat 32 (mag % 2 ^ 10 * 2 ^ 13)) =
      BitVec.ofNat 32 (255 * 2 ^ 23 + (2 ^ 9 + mag % 2 ^ 9) * 2 ^ 13) := by
    rw [← BitVec.ofNat_or, hquiet, ← BitVec.ofNat_or, mul_two_pow_or _ (by omega)]
  unfold decodeHalf
  rw [hs, he', hf', if_pos ⟨he, hf⟩, BitVec.or_assoc, BitVec.or_assoc]
  exact (congrArg _ hbits).trans (sign_or a (by omega))

/-! `widen` -/

/-- A sign, an exponent and the fraction bits above the zeros that `widen` appends. -/
theorem pack64_fields {e : Nat} (he : e < 2 ^ 11) (a : Bool) (f : BitVec 23) :
    BitVec.ofBool a ++ BitVec.ofNat 11 e ++ f ++ 0#29 = pack64 a (e * 2 ^ 52 + f.toNat * 2 ^ 29) := by
  have hf := f.isLt
  apply BitVec.eq_of_toNat_eq
  rw [pack64, toNat_sign_append a (by omega)]
  simp only [append_toNat, BitVec.toNat_ofBool, BitVec.toNat_ofNat, Nat.mod_eq_of_lt he]
  ring

/-- A sign, an exponent and a normalised fraction, its hidden bit cut off. -/
theorem pack64_fraction {e : Nat} (he : e < 2 ^ 11) (a : Bool) (n : Nat) :
    BitVec.ofBool a ++ BitVec.ofNat 11 e ++ BitVec.ofNat 52 n = pack64 a (e * 2 ^ 52 + n % 2 ^ 52) := by
  apply BitVec.eq_of_toNat_eq
  rw [pack64, toNat_sign_append a (by omega)]
  simp only [append_toNat, BitVec.toNat_ofBool, BitVec.toNat_ofNat, Nat.mod_eq_of_lt he]
  ring

theorem widen_infinity (a : Bool) : widen (BitVec.ofBool a ++ BitVec.ofNat 31 0x7F800000) = inf64 a := by
  cases a <;> decide

theorem widen_finite {mag : Nat} (hm : mag < 255 * 2 ^ 23) (a : Bool) :
    widen (BitVec.ofBool a ++ BitVec.ofNat 31 mag) = pack64 a (widerMag 23 896 29 mag) := by
  obtain rfl | hne := eq_or_ne mag 0
  · exact widen_zero a
  obtain ⟨hs, he, hf⟩ := fields32 (mag := mag) (by omega) a
  have hf0 : BitVec.extractLsb' 0 23 (BitVec.ofBool a ++ BitVec.ofNat 31 mag) = 0 ↔ mag % 2 ^ 23 = 0 := by
    rw [← hf, BitVec.toNat_eq]; rfl
  unfold widen
  simp only [hs, he, hf0]
  obtain hlt | hle := lt_or_ge mag (2 ^ 23)
  · have hlog := (Nat.log2_lt hne).2 hlt
    obtain ⟨hlo, hhi⟩ := normalised_bounds (p := 52) hne (by omega)
    rw [if_neg (by omega), if_pos (by omega), if_neg (by omega), hf, widerMag_subnormal hne hlt, Nat.mod_eq_of_lt hlt,
      Nat.shiftLeft_eq, pack64_fraction (by omega), Nat.mod_eq_sub_mod hlo, Nat.mod_eq_of_lt (by omega)]
  · rw [if_neg (by omega), if_neg (by omega), widerMag_normal hle]
    exact (pack64_fields (by omega) a _).trans (by rw [hf])

/-- A NaN keeps its fraction's lower 22 bits, the quiet bit forced (R132). -/
theorem widen_nan {mag : Nat} (hm : mag < 2 ^ 31) (he : mag / 2 ^ 23 = 255) (hf : mag % 2 ^ 23 ≠ 0) (a : Bool) :
    widen (BitVec.ofBool a ++ BitVec.ofNat 31 mag) =
      pack64 a (2047 * 2 ^ 52 + 2 ^ 51 + mag % 2 ^ 22 * 2 ^ 29) := by
  obtain ⟨hs, he', hf'⟩ := fields32 hm a
  have hf0 : BitVec.extractLsb' 0 23 (BitVec.ofBool a ++ BitVec.ofNat 31 mag) ≠ 0 := by
    rw [ne_eq, BitVec.toNat_eq, hf']; exact hf
  have hlow := fraction_sign_append (w := 31) (fbits := 22) (ebits := 9) a hm rfl
  unfold widen
  simp only [hs, he']
  rw [if_pos he, if_neg hf0]
  apply BitVec.eq_of_toNat_eq
  rw [pack64, toNat_sign_append a (by omega)]
  have htop : (0x7FF : BitVec 11).toNat = 2047 := rfl
  have hquiet : (1 : BitVec 1).toNat = 1 := rfl
  have hzeros : (0 : BitVec 29).toNat = 0 := rfl
  simp only [append_toNat, BitVec.toNat_ofBool, hlow, htop, hquiet, hzeros]
  ring

/-! `encode` -/

/-- A normal value of binary16 leaves no remainder. -/
theorem encodeNormalMag_exact {e m : Nat} : encodeNormalMag (e + 112) (m * 2 ^ 13) = e * 2 ^ 10 + m := by
  unfold encodeNormalMag
  simp only [Nat.mul_mod_left, Nat.mul_div_cancel m (Nat.two_pow_pos 13), Nat.add_sub_cancel]
  rw [if_neg (by omega)]

/-- A subnormal value of binary16 leaves no remainder. -/
theorem encodeDenormalMag_exact {m : Nat} (hm : m ≠ 0) (hlt : m < 2 ^ 10) :
    encodeDenormalMag (Nat.log2 m + 103) (m * 2 ^ (23 - Nat.log2 m) - 2 ^ 23) = m := by
  have hlog := (Nat.log2_lt hm).2 hlt
  obtain ⟨hlo, -⟩ := normalised_bounds (p := 23) hm (by omega)
  unfold encodeDenormalMag
  rw [show 126 - (Nat.log2 m + 103) = 23 - Nat.log2 m by omega, show 0x800000 = 2 ^ 23 from rfl,
    Nat.add_sub_cancel' hlo]
  simp only [Nat.mul_mod_left, Nat.mul_div_cancel m (Nat.two_pow_pos _)]
  rw [if_neg (by omega), if_neg]
  have := Nat.two_pow_pos (23 - Nat.log2 m - 1)
  omega

theorem encodeHalf_infinity (a : Bool) :
    encodeHalf (BitVec.ofBool a ++ BitVec.ofNat 31 0x7F800000) = BitVec.ofBool a ++ BitVec.ofNat 15 0x7C00 := by
  cases a <;> decide

/-- `encode` gives a finite value of binary16 its own pattern. -/
theorem encodeHalf_widerMag {mag : Nat} (hm : mag < 31 * 2 ^ 10) (a : Bool) :
    encodeHalf (BitVec.ofBool a ++ BitVec.ofNat 31 (widerMag 10 112 13 mag)) =
      BitVec.ofBool a ++ BitVec.ofNat 15 mag := by
  obtain rfl | hne := eq_or_ne mag 0
  · exact encodeHalf_zero a
  have hwide := widerMag_decode_lt hm
  obtain ⟨hs, he, hf⟩ := fields32 (mag := widerMag 10 112 13 mag) (by omega) a
  unfold encodeHalf
  simp only [hs, he, hf]
  obtain hlt | hle := lt_or_ge mag (2 ^ 10)
  · have hlog := (Nat.log2_lt hne).2 hlt
    obtain ⟨hlo, hhi⟩ := normalised_bounds (p := 23) hne (by omega)
    have hwider := widerMag_subnormal (bias := 112) (more := 13) hne hlt
    simp only [Nat.reduceAdd, Nat.reduceSub] at hwider
    have he' : widerMag 10 112 13 mag / 2 ^ 23 = Nat.log2 mag + 103 := by omega
    have hf' : widerMag 10 112 13 mag % 2 ^ 23 = mag * 2 ^ (23 - Nat.log2 mag) - 2 ^ 23 := by omega
    rw [he', hf', if_neg (by omega), if_neg (by omega), if_neg (by omega), if_neg (by omega), if_neg (by omega),
      encodeDenormalMag_exact hne hlt]
    exact sign_or a (by omega)
  · have he' : widerMag 10 112 13 mag / 2 ^ 23 = mag / 2 ^ 10 + 112 := by rw [widerMag_normal hle]; omega
    have hf' : widerMag 10 112 13 mag % 2 ^ 23 = mag % 2 ^ 10 * 2 ^ 13 := by rw [widerMag_normal hle]; omega
    rw [he', hf', if_neg (by omega), if_neg (by omega), if_neg (by omega), if_pos (by omega), encodeNormalMag_exact,
      Nat.div_add_mod' mag (2 ^ 10)]
    exact sign_or a (by omega)

end Sys2Proof.Machine
end

section
/-! The composed conversions (R134). -/

namespace Sys2Proof.Machine

open Sys2Proof

section
variable {mag : Nat}

theorem val64_widen_finite (hm : mag < 255 * 2 ^ 23) (a : Bool) :
    val64 (widen (BitVec.ofBool a ++ BitVec.ofNat 31 mag)) = .fin a (unitsOfMag 23 mag * 2 ^ 925) := by
  rw [widen_finite hm, val64_pack64_finite (widerMag_widen_lt hm), unitsOfMag_widen]

/-- `narrow` undoes `widen` on a finite value. -/
theorem narrow_widen_finite (hm : mag < 255 * 2 ^ 23) (a : Bool) :
    narrow (widen (BitVec.ofBool a ++ BitVec.ofNat 31 mag)) = BitVec.ofBool a ++ BitVec.ofNat 31 mag := by
  have hval := val64_widen_finite hm a
  rw [Nat.mul_comm] at hval
  exact narrow_of_roundsTo hval (roundsTo_unitsOfMag (by positivity) mag) (by omega)

theorem val64_h2d_finite (hm : mag < 31 * 2 ^ 10) (a : Bool) :
    val64 (h2d (BitVec.ofBool a ++ BitVec.ofNat 15 mag)) = .fin a (unitsOfMag 10 mag * 2 ^ 1050) := by
  rw [h2d, decodeHalf_finite hm, val64_widen_finite (widerMag_decode_lt hm), unitsOfMag_decode, Nat.mul_assoc]
  simp only [← pow_add, Nat.reduceAdd]

/-- `d2h` undoes `h2d` on a finite value. -/
theorem d2h_h2d_finite (hm : mag < 31 * 2 ^ 10) (a : Bool) :
    d2h (h2d (BitVec.ofBool a ++ BitVec.ofNat 15 mag)) = BitVec.ofBool a ++ BitVec.ofNat 15 mag := by
  rw [d2h, h2d, decodeHalf_finite hm, narrow_widen_finite (widerMag_decode_lt hm), encodeHalf_widerMag hm]

theorem h2d_infinity (a : Bool) : h2d (BitVec.ofBool a ++ BitVec.ofNat 15 0x7C00) = inf64 a := by
  rw [h2d, decodeHalf_infinity, widen_infinity]

theorem d2h_inf64 (a : Bool) : d2h (inf64 a) = BitVec.ofBool a ++ BitVec.ofNat 15 0x7C00 := by
  rw [d2h, narrow_inf (val64_inf64 a), encodeHalf_infinity]

theorem h2d_nan (he : mag / 2 ^ 10 = 31) (hf : mag % 2 ^ 10 ≠ 0) (a : Bool) :
    h2d (BitVec.ofBool a ++ BitVec.ofNat 15 mag) = pack64 a (2047 * 2 ^ 52 + (2 ^ 9 + mag % 2 ^ 9) * 2 ^ 42) := by
  rw [h2d, decodeHalf_nan he hf, widen_nan (by omega) (by omega) (by omega)]
  congr 1
  omega

end

/-- The pattern that R134 gives for a NaN, field by field. -/
theorem nanFields64 {mag : Nat} (he : mag / 2 ^ 10 = 31) (a : Bool) :
    let h : Half := BitVec.ofBool a ++ BitVec.ofNat 15 mag
    BitVec.ofBool h.msb ++ (0x7FF : BitVec 11) ++ (h.extractLsb' 0 10 ||| 0x200) ++ (0 : BitVec 42) =
      pack64 a (2047 * 2 ^ 52 + (2 ^ 9 + mag % 2 ^ 9) * 2 ^ 42) := by
  intro h
  obtain ⟨hs, -, hf⟩ := fields16 (mag := mag) (by omega) a
  have hquiet : (h.extractLsb' 0 10 ||| 0x200).toNat = 2 ^ 9 + mag % 2 ^ 9 := by
    rw [BitVec.toNat_or, hf, Nat.or_comm]
    exact (or_quietBit (Nat.mod_lt _ (by decide))).trans (by rw [Nat.mod_mod_of_dvd _ (by decide)])
  have htop : (0x7FF : BitVec 11).toNat = 2047 := rfl
  have hzeros : (0 : BitVec 42).toNat = 0 := rfl
  apply BitVec.eq_of_toNat_eq
  rw [pack64, toNat_sign_append a (by omega)]
  refine (append_toNat _ _).trans ?_
  rw [append_toNat, append_toNat, BitVec.toNat_ofBool, hs, htop, hquiet, hzeros]
  ring

/-! binary16 patterns by their value. -/

theorem eq_of_val16_fin {h : Half} {a : Bool} {u : Nat} (hv : val16 h = .fin a u) :
    ∃ m, m < 31 * 2 ^ 10 ∧ h = BitVec.ofBool a ++ BitVec.ofNat 15 m ∧ u = unitsOfMag 10 m := by
  obtain ⟨b, m, hm, rfl⟩ := exists_sign_append16 h
  rw [val16_sign_append hm] at hv
  obtain ⟨rfl, hlt, hu⟩ := valOfMag_eq_fin hm hv
  exact ⟨m, hlt, rfl, hu⟩

theorem eq_of_val16_inf {h : Half} {a : Bool} (hv : val16 h = .inf a) :
    h = BitVec.ofBool a ++ BitVec.ofNat 15 0x7C00 := by
  obtain ⟨b, m, hm, rfl⟩ := exists_sign_append16 h
  rw [val16_sign_append hm] at hv
  obtain ⟨rfl, rfl⟩ := valOfMag_eq_inf hv
  rfl

theorem eq_of_val16_nan {h : Half} (hv : val16 h = .nan) :
    ∃ a m, m / 2 ^ 10 = 31 ∧ m % 2 ^ 10 ≠ 0 ∧ h = BitVec.ofBool a ++ BitVec.ofNat 15 m := by
  obtain ⟨a, m, hm, rfl⟩ := exists_sign_append16 h
  rw [val16_sign_append hm] at hv
  obtain ⟨he, hf⟩ := valOfMag_eq_nan hv
  exact ⟨a, m, he, hf, rfl⟩

/-- Settles O51: the class of the operand's value gives its pattern, and the conversions are known on patterns. -/
theorem composedConversions : Obligations.ComposedConversions := by
  refine ⟨?finite, ?infinite, ?nan, ?roundTrip, fun d => rfl, by decide +kernel, by decide +kernel, by decide +kernel⟩
  case finite =>
    intro h a u hv
    obtain ⟨m, hm, rfl, rfl⟩ := eq_of_val16_fin hv
    exact val64_h2d_finite hm a
  case infinite =>
    intro h a hv
    rw [eq_of_val16_inf hv, h2d_infinity]
  case nan =>
    intro h hv
    obtain ⟨a, m, he, hf, rfl⟩ := eq_of_val16_nan hv
    exact (h2d_nan he hf a).trans (nanFields64 he a).symm
  case roundTrip =>
    intro h hv
    cases hclass : val16 h with
    | nan => exact absurd hclass hv
    | inf a => rw [eq_of_val16_inf hclass, h2d_infinity, d2h_inf64]
    | fin a u =>
      obtain ⟨m, hm, rfl, -⟩ := eq_of_val16_fin hclass
      exact d2h_h2d_finite hm a

end Sys2Proof.Machine
end

section
/-! `encode` (R150) is a rounding: on every finite binary32 value it gives the binary16 pattern that R125 names. -/

namespace Sys2Proof.Machine

open Sys2Proof

/-! binary32 patterns by their value. -/

theorem exists_sign_append32 (x : Word) : ∃ a m, m < 2 ^ 31 ∧ x = BitVec.ofBool a ++ BitVec.ofNat 31 m :=
  exists_sign_append (w := 31) x

theorem eq_of_val32_fin {x : Word} {a : Bool} {u : Nat} (hv : val32 x = .fin a u) :
    ∃ m, m < 255 * 2 ^ 23 ∧ x = BitVec.ofBool a ++ BitVec.ofNat 31 m ∧ u = unitsOfMag 23 m := by
  obtain ⟨b, m, hm, rfl⟩ := exists_sign_append32 x
  rw [val32_sign_append hm] at hv
  obtain ⟨rfl, hlt, hu⟩ := valOfMag_eq_fin hm hv
  exact ⟨m, hlt, rfl, hu⟩

theorem eq_of_val32_inf {x : Word} {a : Bool} (hv : val32 x = .inf a) :
    x = BitVec.ofBool a ++ BitVec.ofNat 31 0x7F800000 := by
  obtain ⟨b, m, hm, rfl⟩ := exists_sign_append32 x
  rw [val32_sign_append hm] at hv
  obtain ⟨rfl, rfl⟩ := valOfMag_eq_inf hv
  rfl

theorem eq_of_val32_nan {x : Word} (hv : val32 x = .nan) :
    ∃ a m, m / 2 ^ 23 = 255 ∧ m % 2 ^ 23 ≠ 0 ∧ x = BitVec.ofBool a ++ BitVec.ofNat 31 m := by
  obtain ⟨a, m, hm, rfl⟩ := exists_sign_append32 x
  rw [val32_sign_append hm] at hv
  obtain ⟨he, hf⟩ := valOfMag_eq_nan hv
  exact ⟨a, m, he, hf, rfl⟩

theorem val32_finite {m : Nat} (hm : m < 255 * 2 ^ 23) (a : Bool) :
    val32 (BitVec.ofBool a ++ BitVec.ofNat 31 m) = .fin a (unitsOfMag 23 m) := by
  rw [val32_sign_append (by omega), valOfMag_finite hm]

@[simp] theorem val32_infinity (a : Bool) : val32 (BitVec.ofBool a ++ BitVec.ofNat 31 0x7F800000) = .inf a := by
  rw [val32_sign_append (by decide)]
  exact valOfMag_infinity 23 255 a

@[simp] theorem val16_infinity (a : Bool) : val16 (BitVec.ofBool a ++ BitVec.ofNat 15 0x7C00) = .inf a := by
  rw [val16_sign_append (by decide)]
  exact valOfMag_infinity 10 31 a

theorem valOfMag_nan {fbits top mag : Nat} (he : mag / 2 ^ fbits = top) (hf : mag % 2 ^ fbits ≠ 0) (a : Bool) :
    valOfMag fbits top a mag = .nan := by
  rw [valOfMag, valOf, if_pos he, if_neg hf]

/-! Rounding a significand whose low bits are cut off. -/

/-- A significand `n` in steps of `d * g`, and `rem` of those `d` parts more, rounds by `rem` against half of `d`. -/
theorem roundsTo_significand {fbits q n d rem g den : Nat} (hn : n < 2 ^ (fbits + 1)) (hq : q = 0 ∨ 2 ^ fbits ≤ n)
    (hrem : rem < d) (hg : 0 < g) (hden : den * 2 ^ q = d * g) :
    let m := q * 2 ^ fbits + n
    RoundsTo fbits ((d * n + rem) * g) den (if d < 2 * rem ∨ (2 * rem = d ∧ m % 2 = 1) then m + 1 else m) := by
  intro m
  have hlo : den * unitsOfMag fbits m = d * n * g := by
    rw [unitsOfMag_significand hn.le hq, Nat.mul_left_comm, hden]; ring
  have hhi : den * unitsOfMag fbits (m + 1) = (d * n + d) * g := by
    rw [Nat.add_assoc, unitsOfMag_significand hn (by omega), Nat.mul_left_comm, hden, Nat.succ_eq_add_one]; ring
  have h := roundsTo_of_between (fbits := fbits) (den := den) (m := m) (num := (d * n + rem) * g)
    (by rw [hlo]; exact Nat.mul_le_mul_right _ (by omega))
    (by rw [hhi]; exact Nat.mul_lt_mul_of_pos_right (by omega) hg)
  simp only [Nat.mul_add den, hlo, hhi, ← Nat.add_mul, ← Nat.mul_assoc 2, Nat.mul_lt_mul_right hg,
    Nat.mul_left_inj hg.ne'] at h
  convert h using 2
  omega

/-! The magnitude that `encode` computes, by the range of the operand's exponent field (R150). -/

/-- The binary16 magnitude pattern nearest to `u` units of binary32, the infinity on overflow (R125). -/
def halfMag (u : Nat) : Nat := roundUnits 10 (31 * 2 ^ 10) u (2 ^ 125)

theorem halfMag_le (u : Nat) : halfMag u ≤ 31 * 2 ^ 10 := roundUnits_le ..

theorem nearestMag_halfMag (u : Nat) : nearestMag 10 31 u (2 ^ 125) (halfMag u) :=
  nearestMag_roundUnits (by decide) (by decide) (by decide) u

theorem exists_roundsTo_halfMag (u : Nat) : ∃ m, RoundsTo 10 u (2 ^ 125) m ∧ halfMag u = min m (31 * 2 ^ 10) :=
  exists_roundsTo_roundUnits (by decide) (by decide) _ u

theorem halfMag_of_roundsTo {u m : Nat} (h : RoundsTo 10 u (2 ^ 125) m) (hm : m ≤ 31 * 2 ^ 10) : halfMag u = m := by
  rw [halfMag, h.roundUnits_eq (by decide) (by decide), Nat.min_eq_left hm]

/-- Up to half the smallest subnormal, a tie included, nothing is left. -/
theorem halfMag_underflow {u : Nat} (h : u ≤ 2 ^ 124) : halfMag u = 0 :=
  halfMag_of_roundsTo (roundsTo_zero (by omega)) (by decide)

/-- From the midpoint 65520 above the largest finite value on, the infinity. -/
theorem halfMag_overflow_iff {u : Nat} : halfMag u = 31 * 2 ^ 10 ↔ 65520 * 2 ^ 149 ≤ u := by
  obtain ⟨-, hoverflow, -⟩ := nearestMag_halfMag u
  rwa [show 2 ^ 125 * ((2 ^ (10 + 2) - 1) * 2 ^ (31 - 3)) = 65520 * 2 ^ 149 by decide] at hoverflow

/-- The operand rounds to a normal value or the infinity. -/
theorem encodeNormalMag_eq_halfMag {e f : Nat} (hlo : 113 ≤ e) (hhi : e ≤ 142) (hf : f < 2 ^ 23) :
    encodeNormalMag e f = halfMag (unitsOf 23 e f) := by
  obtain ⟨j, rfl⟩ := Nat.exists_eq_add_of_le' hlo
  have hunits : unitsOf 23 (j + 113) f = (2 ^ 13 * (2 ^ 10 + f / 2 ^ 13) + f % 2 ^ 13) * 2 ^ (j + 112) := by
    rw [unitsOf, if_neg (by omega), Nat.add_sub_assoc (by decide)]
    congr 1
    omega
  have hscale : (2 : Nat) ^ 125 * 2 ^ j = 2 ^ 13 * 2 ^ (j + 112) := by
    rw [← Nat.pow_add, ← Nat.pow_add, show 125 + j = 13 + (j + 112) by omega]
  have hround := roundsTo_significand (fbits := 10) (q := j) (n := 2 ^ 10 + f / 2 ^ 13) (rem := f % 2 ^ 13)
    (by omega) (.inr (by omega)) (by omega) (by positivity) hscale
  rw [hunits, halfMag_of_roundsTo hround (by split_ifs <;> omega), encodeNormalMag]
  simp only [show (j + 113 - 112) * 2 ^ 10 + f / 2 ^ 13 = j * 2 ^ 10 + (2 ^ 10 + f / 2 ^ 13) by omega]
  exact if_congr (by omega) rfl rfl

/-- The operand rounds to a zero, a subnormal value or the smallest normal one. -/
theorem encodeDenormalMag_eq_halfMag {e f : Nat} (hlo : 1 ≤ e) (hhi : e ≤ 112) (hf : f < 2 ^ 23) :
    encodeDenormalMag e f = halfMag (unitsOf 23 e f) := by
  rw [unitsOf, if_neg (by omega), encodeDenormalMag, show 0x800000 = 2 ^ 23 from rfl]
  obtain hsmall | hsub := lt_or_ge e 102
  · have hunits : (2 ^ 23 + f) * 2 ^ (e - 1) ≤ 2 ^ 24 * 2 ^ 100 :=
      Nat.mul_le_mul (by omega) (Nat.pow_le_pow_right (by decide) (by omega))
    rw [halfMag_underflow (hunits.trans (by decide)), if_pos (by omega)]
  · obtain ⟨k, hk⟩ : ∃ k, 126 - e = k + 1 := ⟨125 - e, by omega⟩
    have hscale : (2 : Nat) ^ 125 * 2 ^ 0 = 2 ^ (k + 1) * 2 ^ (e - 1) := by
      rw [← Nat.pow_add, ← Nat.pow_add, show k + 1 + (e - 1) = 125 + 0 by omega]
    have hcut : (2 ^ 23 + f) / 2 ^ (k + 1) < 2 ^ 10 := by
      have : 2 ^ 14 ≤ 2 ^ (k + 1) := Nat.pow_le_pow_right (by decide) (by omega)
      exact Nat.div_lt_of_lt_mul (by omega)
    have hround := roundsTo_significand (fbits := 10) (n := (2 ^ 23 + f) / 2 ^ (k + 1)) (by omega) (.inl rfl)
      (Nat.mod_lt (2 ^ 23 + f) (by positivity)) (by positivity) hscale
    rw [Nat.div_add_mod] at hround
    simp only [Nat.zero_mul, Nat.zero_add] at hround
    rw [halfMag_of_roundsTo hround (by split_ifs <;> omega), hk, if_neg (by omega), Nat.add_sub_cancel]
    exact if_congr (by rw [Nat.pow_succ]; omega) rfl rfl

/-- `encode` of a finite value is its sign and the nearest magnitude pattern. -/
theorem encodeHalf_finite {mag : Nat} (hm : mag < 255 * 2 ^ 23) (a : Bool) :
    encodeHalf (BitVec.ofBool a ++ BitVec.ofNat 31 mag) =
      BitVec.ofBool a ++ BitVec.ofNat 15 (halfMag (unitsOfMag 23 mag)) := by
  obtain ⟨hs, he, hf⟩ := fields32 (mag := mag) (by omega) a
  have hfrac : mag % 2 ^ 23 < 2 ^ 23 := Nat.mod_lt _ (by decide)
  have hle := halfMag_le (unitsOfMag 23 mag)
  unfold encodeHalf
  simp only [hs, he, hf]
  rw [if_neg (by omega), if_neg (by omega)]
  split_ifs with hover hnormal hzero
  · have hunits : (2 : Nat) ^ 165 ≤ unitsOfMag 23 mag :=
      (unitsOfMag_exponent 23 142).symm.le.trans ((unitsOfMag_strictMono 23).monotone (by omega))
    rw [halfMag_overflow_iff.2 (le_trans (by decide) hunits)]
    exact sign_or a (by decide)
  · rw [encodeNormalMag_eq_halfMag hnormal (by omega) hfrac]
    exact sign_or a (by rw [← unitsOfMag]; omega)
  · have hunits : unitsOfMag 23 mag = mag % 2 ^ 23 := by rw [unitsOfMag, unitsOf, if_pos hzero]
    rw [hunits, halfMag_underflow (by omega)]
    rfl
  · rw [encodeDenormalMag_eq_halfMag (by omega) (by omega) hfrac]
    exact sign_or a (by rw [← unitsOfMag]; omega)

/-! NaNs, by the bits of the fraction that are kept. -/

/-- A bit field below the sign. -/
theorem field_sign_append {w m lo len : Nat} (a : Bool) (hm : m < 2 ^ w) (hw : lo + len ≤ w) :
    ((BitVec.ofBool a ++ BitVec.ofNat w m).extractLsb' lo len).toNat = m / 2 ^ lo % 2 ^ len := by
  obtain ⟨k, rfl⟩ := Nat.exists_eq_add_of_le hw
  rw [BitVec.extractLsb'_toNat, toNat_sign_append a hm, Nat.shiftRight_eq_div_pow, Nat.pow_add, Nat.pow_add,
    show a.toNat * (2 ^ lo * 2 ^ len * 2 ^ k) + m = 2 ^ lo * (2 ^ len * (2 ^ k * a.toNat)) + m by ring,
    Nat.mul_add_div (by positivity), Nat.mul_add_mod]

/-- The quiet bit forced in ten fraction bits. -/
theorem toNat_or_quietBit (f : BitVec 10) : (f ||| 0x200).toNat = 2 ^ 9 + f.toNat % 2 ^ 9 := by
  rw [BitVec.toNat_or, Nat.or_comm]
  exact or_quietBit f.isLt

/-- A NaN keeps its fraction bits 22:13, the quiet bit forced (R150). -/
theorem encodeHalf_nan {mag : Nat} (he : mag / 2 ^ 23 = 255) (hf : mag % 2 ^ 23 ≠ 0) (a : Bool) :
    encodeHalf (BitVec.ofBool a ++ BitVec.ofNat 31 mag) =
      BitVec.ofBool a ++ BitVec.ofNat 15 (31 * 2 ^ 10 + (2 ^ 9 + mag / 2 ^ 13 % 2 ^ 9)) := by
  obtain ⟨hs, he', hf'⟩ := fields32 (mag := mag) (by omega) a
  have hkept := field_sign_append (w := 31) (m := mag) (lo := 13) (len := 10) a (by omega) (by decide)
  have hquiet : 0x0200 ||| mag / 2 ^ 13 % 2 ^ 10 = 2 ^ 9 + mag / 2 ^ 13 % 2 ^ 9 :=
    (or_quietBit (Nat.mod_lt _ (by decide))).trans (by rw [Nat.mod_mod_of_dvd _ (by decide)])
  have hbits : BitVec.ofNat 16 (31 * 2 ^ 10) |||
      (BitVec.ofNat 16 0x0200 ||| BitVec.ofNat 16 (mag / 2 ^ 13 % 2 ^ 10)) =
      BitVec.ofNat 16 (31 * 2 ^ 10 + (2 ^ 9 + mag / 2 ^ 13 % 2 ^ 9)) := by
    rw [← BitVec.ofNat_or, hquiet, ← BitVec.ofNat_or, mul_two_pow_or _ (by omega)]
  unfold encodeHalf
  simp only [hs, he', hf']
  rw [if_pos ⟨he, hf⟩, BitVec.or_assoc, BitVec.or_assoc, ← BitVec.ofNat_toNat, hkept]
  exact (congrArg _ hbits).trans (sign_or a (by omega))

/-- The binary16 NaN that R150 gives, field by field. -/
theorem nanFields16 {mag : Nat} (he : mag / 2 ^ 23 = 255) (a : Bool) :
    let x : Word := BitVec.ofBool a ++ BitVec.ofNat 31 mag
    BitVec.ofBool x.msb ++ ((0x1F : BitVec 5) ++ (x.extractLsb' 13 10 ||| 0x200)) =
      BitVec.ofBool a ++ BitVec.ofNat 15 (31 * 2 ^ 10 + (2 ^ 9 + mag / 2 ^ 13 % 2 ^ 9)) := by
  intro x
  obtain ⟨hs, -, -⟩ := fields32 (mag := mag) (by omega) a
  have hkept : (x.extractLsb' 13 10).toNat = mag / 2 ^ 13 % 2 ^ 10 :=
    field_sign_append (w := 31) a (by omega) (by decide)
  have htop : (0x1F : BitVec 5).toNat = 31 := rfl
  apply BitVec.eq_of_toNat_eq
  rw [toNat_sign_append a (by omega)]
  refine (append_toNat _ _).trans ?_
  rw [append_toNat, toNat_or_quietBit, BitVec.toNat_ofBool, hs, hkept, htop, Nat.mod_mod_of_dvd _ (by decide)]

/-- The binary32 NaN that R160 gives, field by field. -/
theorem nanFields32 {mag : Nat} (he : mag / 2 ^ 10 = 31) (a : Bool) :
    let h : Half := BitVec.ofBool a ++ BitVec.ofNat 15 mag
    BitVec.ofBool h.msb ++ (0xFF : BitVec 8) ++ ((h.extractLsb' 0 10 ||| 0x200) ++ (0 : BitVec 13)) =
      BitVec.ofBool a ++ BitVec.ofNat 31 (255 * 2 ^ 23 + (2 ^ 9 + mag % 2 ^ 9) * 2 ^ 13) := by
  intro h
  obtain ⟨hs, -, hf⟩ := fields16 (mag := mag) (by omega) a
  have htop : (0xFF : BitVec 8).toNat = 255 := rfl
  have hzeros : (0 : BitVec 13).toNat = 0 := rfl
  apply BitVec.eq_of_toNat_eq
  rw [toNat_sign_append a (by omega)]
  refine (append_toNat _ _).trans ?_
  rw [append_toNat, append_toNat, toNat_or_quietBit, BitVec.toNat_ofBool, hs, hf, htop, hzeros,
    Nat.mod_mod_of_dvd _ (by decide)]
  ring

/-- The binary32 NaN that is left of a binary32 NaN after `encode` and `decode`, field by field (R163). -/
theorem nanFieldsRoundTrip {mag : Nat} (he : mag / 2 ^ 23 = 255) (a : Bool) :
    let x : Word := BitVec.ofBool a ++ BitVec.ofNat 31 mag
    BitVec.ofBool x.msb ++ (0xFF : BitVec 8) ++ (1 : BitVec 1) ++ x.extractLsb' 13 9 ++ (0 : BitVec 13) =
      BitVec.ofBool a ++ BitVec.ofNat 31 (255 * 2 ^ 23 + (2 ^ 9 + mag / 2 ^ 13 % 2 ^ 9) * 2 ^ 13) := by
  intro x
  obtain ⟨hs, -, -⟩ := fields32 (mag := mag) (by omega) a
  have hkept : (x.extractLsb' 13 9).toNat = mag / 2 ^ 13 % 2 ^ 9 :=
    field_sign_append (w := 31) a (by omega) (by decide)
  have htop : (0xFF : BitVec 8).toNat = 255 := rfl
  have hquiet : (1 : BitVec 1).toNat = 1 := rfl
  have hzeros : (0 : BitVec 13).toNat = 0 := rfl
  apply BitVec.eq_of_toNat_eq
  rw [toNat_sign_append a (by omega)]
  refine (append_toNat _ _).trans ?_
  rw [append_toNat, append_toNat, append_toNat, BitVec.toNat_ofBool, hs, hkept, htop, hquiet, hzeros]
  ring

/-! `encode` and `decode` by the class of the operand's value. -/

theorem encodeHalf_of_val32_fin {x : Word} {a : Bool} {u : Nat} (h : val32 x = .fin a u) :
    encodeHalf x = BitVec.ofBool a ++ BitVec.ofNat 15 (halfMag u) := by
  obtain ⟨m, hm, rfl, rfl⟩ := eq_of_val32_fin h
  exact encodeHalf_finite hm a

theorem encodeHalf_of_val32_inf {x : Word} {a : Bool} (h : val32 x = .inf a) :
    encodeHalf x = BitVec.ofBool a ++ BitVec.ofNat 15 0x7C00 := by
  rw [eq_of_val32_inf h, encodeHalf_infinity]

theorem decodeHalf_of_val16_inf {h : Half} {a : Bool} (hv : val16 h = .inf a) :
    decodeHalf h = BitVec.ofBool a ++ BitVec.ofNat 31 0x7F800000 := by
  rw [eq_of_val16_inf hv, decodeHalf_infinity]

theorem val32_decodeHalf_finite {mag : Nat} (hm : mag < 31 * 2 ^ 10) (a : Bool) :
    val32 (decodeHalf (BitVec.ofBool a ++ BitVec.ofNat 15 mag)) = .fin a (unitsOfMag 10 mag * 2 ^ 125) := by
  rw [decodeHalf_finite hm, val32_finite (widerMag_decode_lt hm), unitsOfMag_decode]

/-- A finite binary32 magnitude pattern whose value is one of binary16 is the pattern that `decode` gives. -/
theorem eq_widerMag_of_units {mag m : Nat} (h : unitsOfMag 23 mag = unitsOfMag 10 m * 2 ^ 125) :
    mag = widerMag 10 112 13 m :=
  (unitsOfMag_strictMono 23).injective (h.trans (unitsOfMag_decode m).symm)

/-- `encode` undoes `decode` on a finite value. -/
theorem encodeHalf_decodeHalf_finite {mag : Nat} (hm : mag < 31 * 2 ^ 10) (a : Bool) :
    encodeHalf (decodeHalf (BitVec.ofBool a ++ BitVec.ofNat 15 mag)) = BitVec.ofBool a ++ BitVec.ofNat 15 mag := by
  rw [decodeHalf_finite hm, encodeHalf_widerMag hm]

/-- `encode` of `decode` of a NaN forces the quiet bit. -/
theorem encodeHalf_decodeHalf_nan {mag : Nat} (he : mag / 2 ^ 10 = 31) (hf : mag % 2 ^ 10 ≠ 0) (a : Bool) :
    encodeHalf (decodeHalf (BitVec.ofBool a ++ BitVec.ofNat 15 mag)) =
      BitVec.ofBool a ++ BitVec.ofNat 15 (31 * 2 ^ 10 + (2 ^ 9 + mag % 2 ^ 9)) := by
  have hkept : (255 * 2 ^ 23 + (2 ^ 9 + mag % 2 ^ 9) * 2 ^ 13) / 2 ^ 13 % 2 ^ 9 = mag % 2 ^ 9 := by omega
  rw [decodeHalf_nan he hf, encodeHalf_nan (by omega) (by omega), hkept]

/-- `decode` of `encode` of a NaN: the sign, the quiet bit and nine bits of the fraction are left. -/
theorem decodeHalf_encodeHalf_nan {mag : Nat} (he : mag / 2 ^ 23 = 255) (hf : mag % 2 ^ 23 ≠ 0) (a : Bool) :
    decodeHalf (encodeHalf (BitVec.ofBool a ++ BitVec.ofNat 31 mag)) =
      BitVec.ofBool a ++ BitVec.ofNat 31 (255 * 2 ^ 23 + (2 ^ 9 + mag / 2 ^ 13 % 2 ^ 9) * 2 ^ 13) := by
  have hkept : (31 * 2 ^ 10 + (2 ^ 9 + mag / 2 ^ 13 % 2 ^ 9)) % 2 ^ 9 = mag / 2 ^ 13 % 2 ^ 9 := by omega
  rw [encodeHalf_nan he hf, decodeHalf_nan (by omega) (by omega), hkept]

end Sys2Proof.Machine
end

section
/-! The codec's statements (R150 to R153, R160 to R163). -/

namespace Sys2Proof.Machine

open Sys2Proof

/-! `ENC` and `DEC` -/

/-- Settles O19: the opcode's format makes the fields must-be-zero, and the dtype check decides the rest. -/
theorem encEncodesOpa : Obligations.EncEncodesOpa := by
  refine ⟨fun v hop hnz => (illegalWord_of_opcodesT (by rw [hop]; decide)).2 hnz,
    fun s dt => ⟨fun hne => ?_, ?_⟩⟩
  · exact exec_enc_of_ne hne s
  · rintro rfl
    exact exec_enc_f16 s

/-- Settles O20, as O19; `DEC` reads bits 15:0 of `OPA` only. -/
theorem decDecodesOpa : Obligations.DecDecodesOpa := by
  refine ⟨fun v hop hnz => (illegalWord_of_opcodesT (by rw [hop]; decide)).2 hnz,
    fun s dt => ⟨fun hne => ?_, ?_⟩⟩
  · exact exec_dec_of_ne hne s
  · rintro rfl top h hopa
    have hlow : s.opa.extractLsb' 0 16 = h := by rw [hopa, BitVec.extractLsb'_append_eq_right]
    rw [← hlow]
    exact exec_dec_f16 s

/-- Settles O21: a finite operand's magnitude is `roundUnits`'s, which R125's law describes. -/
theorem encodeIsTheNearestHalf : Obligations.EncodeIsTheNearestHalf := by
  refine fun x => ⟨fun a u h => ⟨_, encodeHalf_of_val32_fin h, nearestMag_halfMag u⟩,
    fun a h => encodeHalf_of_val32_inf h, fun h => ?nan⟩
  case nan =>
    obtain ⟨a, m, he, hf, rfl⟩ := eq_of_val32_nan h
    exact (encodeHalf_nan he hf a).trans (nanFields16 he a).symm

/-- Settles O24: the class of the operand's value gives its pattern, and `decode` is known on patterns. -/
theorem decodeIsExact : Obligations.DecodeIsExact := by
  refine fun h => ⟨fun a u hv => ?finite, fun a hv => decodeHalf_of_val16_inf hv, fun hv => ?nan⟩
  case finite =>
    obtain ⟨m, hm, rfl, rfl⟩ := eq_of_val16_fin hv
    exact val32_decodeHalf_finite hm a
  case nan =>
    obtain ⟨a, m, he, hf, rfl⟩ := eq_of_val16_nan hv
    exact (decodeHalf_nan he hf a).trans (nanFields32 he a).symm

/-- Settles O26: NaNs by the fraction bits that each direction keeps, infinities by their patterns. -/
theorem nanAndInfinityThroughTheCodec : Obligations.NaNAndInfinityThroughTheCodec := by
  refine fun x => ⟨fun hv => ?nan, fun a hv => ?inf, fun h hv => ?nanClass, fun h a hv => ?infClass⟩
  case nan =>
    obtain ⟨a, m, he, hf, rfl⟩ := eq_of_val32_nan hv
    exact (decodeHalf_encodeHalf_nan he hf a).trans (nanFieldsRoundTrip he a).symm
  case inf => rw [encodeHalf_of_val32_inf hv, decodeHalf_infinity, eq_of_val32_inf hv]
  case nanClass =>
    obtain ⟨a, m, he, hf, rfl⟩ := eq_of_val16_nan hv
    rw [decodeHalf_nan he hf, val32_sign_append (by omega), valOfMag_nan (by omega) (by omega)]
  case infClass => rw [decodeHalf_of_val16_inf hv, val32_infinity]

/-- Settles O25: a binary16 value has one binary32 pattern, the one `decode` gives; any other finite value
rounds first. -/
theorem codecRoundTrip : Obligations.CodecRoundTrip := by
  refine ⟨fun x h hsame => ?exact, fun x a u hx => ⟨_, nearestMag_halfMag u, ?nearest⟩⟩
  case exact =>
    cases hx : val32 x with
    | nan => simp [hx, sameValue] at hsame
    | inf a => rw [encodeHalf_of_val32_inf hx, decodeHalf_infinity, eq_of_val32_inf hx]
    | fin a u =>
      cases hv : val16 h with
      | nan => simp [hx, hv, sameValue] at hsame
      | inf b => simp [hx, hv, sameValue] at hsame
      | fin b v =>
        rw [hx, hv] at hsame
        obtain ⟨rfl, rfl⟩ := hsame
        obtain ⟨mag, -, rfl, hmag⟩ := eq_of_val32_fin hx
        obtain ⟨m, hm, -, rfl⟩ := eq_of_val16_fin hv
        rw [eq_widerMag_of_units hmag.symm, encodeHalf_widerMag hm, decodeHalf_finite hm]
  case nearest =>
    rw [encodeHalf_of_val32_fin hx]
    split_ifs with hinf
    · rw [hinf, decodeHalf_infinity, val32_infinity]
    · exact val32_decodeHalf_finite (lt_of_le_of_ne (halfMag_le u) hinf) a

/-! The thresholds of `encode` (R152). -/

/-- Up to 2048, twice the smallest normal pattern, a binary16 pattern is its own count of units. -/
theorem unitsOfMag_small {m : Nat} (hm : m ≤ 2 ^ 11) : unitsOfMag 10 m = m := by
  simpa using unitsOfMag_significand (fbits := 10) (q := 0) (n := m) hm (.inl rfl)

/-- In the subnormal range, and next to it, a magnitude within half a unit of `m` units rounds to `m`, and from the
ends of that range if `m` is even. -/
theorem halfMag_of_within_half {u m : Nat} (hpos : 1 ≤ m) (hm : m < 2 ^ 11) (hlo : (2 * m - 1) * 2 ^ 124 ≤ u)
    (hhi : u ≤ (2 * m + 1) * 2 ^ 124)
    (htie : u = (2 * m - 1) * 2 ^ 124 ∨ u = (2 * m + 1) * 2 ^ 124 → m % 2 = 0) : halfMag u = m := by
  have hbelow := unitsOfMag_small (m := m - 1) (by omega)
  have hself := unitsOfMag_small hm.le
  have habove := unitsOfMag_small (m := m + 1) hm
  refine halfMag_of_roundsTo ?_ (by omega)
  constructor <;> simp only [hbelow, hself, habove] <;> omega

theorem halfMag_le_iff {u k : Nat} (hk : k % 2 = 1) (hlt : k < 31 * 2 ^ 10) :
    halfMag u ≤ k ↔ 2 * u < 2 ^ 125 * (unitsOfMag 10 k + unitsOfMag 10 (k + 1)) := by
  obtain ⟨m, hm, hmag⟩ := exists_roundsTo_halfMag u
  rw [← hm.le_iff (by decide) hk, hmag]
  omega

/-- A magnitude rounds to a subnormal or a zero exactly when it is below the midpoint under the smallest
normal value. -/
theorem halfMag_le_subnormal_iff {u : Nat} : halfMag u ≤ 0x3FF ↔ u < 2047 * 2 ^ 124 := by
  rw [halfMag_le_iff (by decide) (by decide), unitsOfMag_small (by decide), unitsOfMag_small (by decide)]
  omega

/-- A rounding to a subnormal is within half a unit, and to the even one from a midpoint. -/
theorem halfMag_subnormal {u : Nat} (hlo : 2 ^ 124 < u) (hhi : u < 2047 * 2 ^ 124) :
    0x0001 ≤ halfMag u ∧ halfMag u ≤ 0x03FF ∧ 2 * u ≤ (2 * halfMag u + 1) * 2 ^ 125 ∧
      (2 * halfMag u - 1) * 2 ^ 125 ≤ 2 * u ∧
      (2 * u = (2 * halfMag u + 1) * 2 ^ 125 ∨ (2 * halfMag u - 1) * 2 ^ 125 = 2 * u → halfMag u % 2 = 0) := by
  have hsub := halfMag_le_subnormal_iff.2 hhi
  obtain ⟨m, ⟨hlow, hlowTie, hup, hupTie⟩, hmag⟩ := exists_roundsTo_halfMag u
  obtain rfl : m = halfMag u := by omega
  rw [unitsOfMag_small (m := halfMag u) (by omega)] at hlow hlowTie hup hupTie
  rw [unitsOfMag_small (by omega)] at hlow hlowTie hup hupTie
  omega

/-- The largest finite value, from the magnitudes above it too, up to the midpoint 65520. -/
theorem halfMag_largest {u : Nat} (hlo : 65504 * 2 ^ 149 < u) (hhi : u < 65520 * 2 ^ 149) : halfMag u = 0x7BFF := by
  have hbelow : unitsOfMag 10 (0x7BFF - 1) = 65472 * 2 ^ 24 := by decide
  have hself : unitsOfMag 10 0x7BFF = 65504 * 2 ^ 24 := by decide
  have habove : unitsOfMag 10 (0x7BFF + 1) = 65536 * 2 ^ 24 := by decide
  refine halfMag_of_roundsTo ?_ (by decide)
  constructor <;> simp only [hbelow, hself, habove] <;> omega

/-- The magnitude bits of a pattern. -/
theorem toNat_sign_append_mod {w m : Nat} (a : Bool) (hm : m < 2 ^ w) :
    (BitVec.ofBool a ++ BitVec.ofNat w m).toNat % 2 ^ w = m := by
  rw [toNat_sign_append a hm, Nat.mul_add_mod', Nat.mod_eq_of_lt hm]

/-- Settles O22: each row is a range of units on which the pattern they round to is known. -/
theorem encodeThresholds : Obligations.EncodeThresholds := by
  refine fun x => ⟨fun a u h => ?finite, fun a h => ?inf, fun h => ?nan⟩
  case finite =>
    have hle := halfMag_le u
    rw [encodeHalf_of_val32_fin h, toNat_sign_append_mod a (by omega)]
    refine ⟨halfMag_underflow, fun hlo hhi => ?one, fun hu => ?two, halfMag_subnormal, fun hlo hhi => ?smallestNormal,
      fun hlo hhi => ⟨?_, ?_, nearestMag_halfMag u⟩, halfMag_largest, halfMag_overflow_iff.2⟩
    case one => exact halfMag_of_within_half (by decide) (by decide) (by omega) (by omega) (by omega)
    case two => exact halfMag_of_within_half (by decide) (by decide) (by omega) (by omega) (by omega)
    case smallestNormal => exact halfMag_of_within_half (by decide) (by decide) (by omega) (by omega) (by omega)
    · have := halfMag_le_subnormal_iff (u := u)
      omega
    · have := halfMag_overflow_iff (u := u)
      omega
  case inf => rw [encodeHalf_of_val32_inf h, toNat_sign_append_mod a (by decide)]
  case nan =>
    obtain ⟨a, m, he, hf, rfl⟩ := eq_of_val32_nan h
    rw [encodeHalf_nan he hf, toNat_sign_append_mod a (by omega)]
    omega

/-! The order of values (R153). -/

theorem RoundsTo.mono {fbits num num' den m m' : Nat} (hden : 0 < den) (h : RoundsTo fbits num den m)
    (h' : RoundsTo fbits num' den m') (hle : num ≤ num') : m ≤ m' := by
  by_contra hlt
  obtain ⟨k, rfl⟩ : ∃ k, m = k + 1 := ⟨m - 1, by omega⟩
  have hlow := h.lower
  have htie := h.lowerTie
  have hup := h'.upper
  rw [Nat.add_sub_cancel] at hlow htie
  obtain hk | rfl := Nat.lt_or_eq_of_le (show m' ≤ k by omega)
  · have := Nat.mul_lt_mul_of_pos_left (midpoint_strictMono fbits hk) hden
    omega
  · have := h'.upperTie (by omega)
    have := htie (by omega)
    omega

theorem halfMag_mono : Monotone halfMag := fun u v huv => by
  obtain ⟨m, hm, hmag⟩ := exists_roundsTo_halfMag u
  obtain ⟨n, hn, hmag'⟩ := exists_roundsTo_halfMag v
  have := hm.mono (by decide) hn huv
  omega

/-- A monotone function of magnitudes that keeps zero keeps the order of signed ones. -/
theorem signedUnits_map_le {f : Nat → Nat} (hf : Monotone f) (h0 : f 0 = 0) {a b : Bool} {u v : Nat}
    (h : signedUnits a u ≤ signedUnits b v) : signedUnits a (f u) ≤ signedUnits b (f v) := by
  cases a <;> cases b <;> simp only [signedUnits, if_true, Bool.false_eq_true, if_false] at h ⊢
  · exact_mod_cast hf (by omega)
  · obtain ⟨rfl, rfl⟩ : u = 0 ∧ v = 0 := by omega
    simp [h0]
  · omega
  · have := hf (show v ≤ u by omega)
    omega

theorem notAbove_inf_true {v : FpVal} (hv : v ≠ .nan) : notAbove (.inf true) v := by
  cases v <;> simp_all [notAbove]

theorem notAbove_inf_false {v : FpVal} (hv : v ≠ .nan) : notAbove v (.inf false) := by
  cases v <;> simp_all [notAbove]

/-- Patterns up to the infinity have the order of their signed magnitudes. -/
theorem notAbove_valOfMag {fbits top m n : Nat} {a b : Bool} (htop : 0 < top) (hm : m ≤ top * 2 ^ fbits)
    (hn : n ≤ top * 2 ^ fbits) (h : signedUnits a m ≤ signedUnits b n) :
    notAbove (valOfMag fbits top a m) (valOfMag fbits top b n) := by
  have hpos : 0 < top * 2 ^ fbits := by positivity
  by_cases hleast : a = true ∧ m = top * 2 ^ fbits
  · obtain ⟨rfl, rfl⟩ := hleast
    rw [valOfMag_infinity]
    exact notAbove_inf_true (valOfMag_ne_nan hn b)
  by_cases hgreatest : b = false ∧ n = top * 2 ^ fbits
  · obtain ⟨rfl, rfl⟩ := hgreatest
    rw [valOfMag_infinity]
    exact notAbove_inf_false (valOfMag_ne_nan hm a)
  have hfinite : m < top * 2 ^ fbits ∧ n < top * 2 ^ fbits := by
    grind [signedUnits]
  rw [valOfMag_finite hfinite.1, valOfMag_finite hfinite.2]
  exact signedUnits_map_le (unitsOfMag_strictMono fbits).monotone (unitsOfMag_zero fbits) h

theorem val16_sign_append_ne_nan {m : Nat} (hm : m ≤ 31 * 2 ^ 10) (a : Bool) :
    val16 (BitVec.ofBool a ++ BitVec.ofNat 15 m) ≠ .nan := by
  rw [val16_sign_append (by omega)]
  exact valOfMag_ne_nan hm a

theorem val16_encodeHalf_ne_nan {x : Word} (hx : val32 x ≠ .nan) : val16 (encodeHalf x) ≠ .nan := by
  cases hclass : val32 x with
  | nan => exact absurd hclass hx
  | inf a =>
    rw [encodeHalf_of_val32_inf hclass]
    exact val16_sign_append_ne_nan le_rfl a
  | fin a u =>
    rw [encodeHalf_of_val32_fin hclass]
    exact val16_sign_append_ne_nan (halfMag_le u) a

theorem val16_encodeHalf_of_inf {x : Word} {a : Bool} (hx : val32 x = .inf a) : val16 (encodeHalf x) = .inf a := by
  rw [encodeHalf_of_val32_inf hx, val16_infinity]

/-- Infinities stay at the ends of the order, and between them rounding keeps it. -/
theorem notAbove_encodeHalf {x y : Word} (h : notAbove (val32 x) (val32 y)) :
    notAbove (val16 (encodeHalf x)) (val16 (encodeHalf y)) := by
  cases hx : val32 x with
  | nan => simp [hx, notAbove] at h
  | inf a =>
    rw [val16_encodeHalf_of_inf hx]
    cases hy : val32 y with
    | nan => simp [hx, hy, notAbove] at h
    | inf b => rwa [val16_encodeHalf_of_inf hy, ← hx, ← hy]
    | fin b v =>
      obtain rfl : a = true := by simpa [hx, hy, notAbove] using h
      exact notAbove_inf_true (val16_encodeHalf_ne_nan (by simp [hy]))
  | fin a u =>
    cases hy : val32 y with
    | nan => simp [hx, hy, notAbove] at h
    | inf b =>
      obtain rfl : b = false := by simpa [hx, hy, notAbove] using h
      rw [val16_encodeHalf_of_inf hy]
      exact notAbove_inf_false (val16_encodeHalf_ne_nan (by simp [hx]))
    | fin b v =>
      rw [hx, hy] at h
      have hu := halfMag_le u
      have hv := halfMag_le v
      rw [encodeHalf_of_val32_fin hx, encodeHalf_of_val32_fin hy, val16_sign_append (by omega),
        val16_sign_append (by omega)]
      exact notAbove_valOfMag (by decide) hu hv (signedUnits_map_le halfMag_mono (halfMag_underflow (by decide)) h)

/-! The other properties of R153. -/

theorem msb_encodeHalf (x : Word) : (encodeHalf x).msb = x.msb := by
  cases hx : val32 x with
  | nan =>
    obtain ⟨a, m, he, hf, rfl⟩ := eq_of_val32_nan hx
    rw [encodeHalf_nan he hf]
    exact (msb_sign_append a _).trans (msb_sign_append a _).symm
  | inf a =>
    rw [encodeHalf_of_val32_inf hx, eq_of_val32_inf hx]
    exact (msb_sign_append a _).trans (msb_sign_append a _).symm
  | fin a u =>
    obtain ⟨m, hm, rfl, rfl⟩ := eq_of_val32_fin hx
    rw [encodeHalf_finite hm]
    exact (msb_sign_append a _).trans (msb_sign_append a _).symm

theorem val16_encodeHalf_nan {x : Word} (hx : val32 x = .nan) : val16 (encodeHalf x) = .nan := by
  obtain ⟨a, m, he, hf, rfl⟩ := eq_of_val32_nan hx
  rw [encodeHalf_nan he hf, val16_sign_append (by omega), valOfMag_nan (by omega) (by omega)]

/-- The quiet bit forced in a binary16 NaN. -/
theorem nan_or_quietBit {mag : Nat} (he : mag / 2 ^ 10 = 31) (a : Bool) :
    (BitVec.ofBool a ++ BitVec.ofNat 15 mag : Half) ||| 0x0200 =
      BitVec.ofBool a ++ BitVec.ofNat 15 (31 * 2 ^ 10 + (2 ^ 9 + mag % 2 ^ 9)) := by
  have hf : mag % 2 ^ 10 < 2 ^ 10 := Nat.mod_lt _ (by decide)
  have hquiet : (0x0200 : Half).toNat = 2 ^ 9 := rfl
  apply BitVec.eq_of_toNat_eq
  rw [BitVec.toNat_or, toNat_sign_append a (by omega), toNat_sign_append a (by omega), hquiet,
    show a.toNat * 2 ^ 15 + mag = (a.toNat * 32 + 31) * 2 ^ 10 + mag % 2 ^ 10 by omega, ← mul_two_pow_or _ hf,
    Nat.or_assoc, Nat.or_comm (mag % 2 ^ 10), or_quietBit hf, mul_two_pow_or _ (by omega),
    Nat.mod_mod_of_dvd _ (by decide)]
  ring

/-- Settles O23: the monotonicity of rounding gives the order, the facts on patterns the rest. -/
theorem encodeProperties : Obligations.EncodeProperties := by
  refine ⟨fun s t hf hexec => ?noFault, msb_encodeHalf, fun x => val16_encodeHalf_nan,
    fun x y => notAbove_encodeHalf, fun h hv => ?roundTrip, fun h hv => ?quieted⟩
  case noFault =>
    obtain rfl : s.setRes _ = t := Host.Outcome.next.inj ((exec_enc_f16 s).symm.trans hexec)
    exact hf
  case roundTrip =>
    cases hclass : val16 h with
    | nan => exact absurd hclass hv
    | inf a => rw [decodeHalf_of_val16_inf hclass, encodeHalf_infinity, eq_of_val16_inf hclass]
    | fin a u =>
      obtain ⟨m, hm, rfl, -⟩ := eq_of_val16_fin hclass
      exact encodeHalf_decodeHalf_finite hm a
  case quieted =>
    obtain ⟨a, m, he, hf, rfl⟩ := eq_of_val16_nan hv
    rw [encodeHalf_decodeHalf_nan he hf, nan_or_quietBit he]

end Sys2Proof.Machine
end

section
/-! The words of the format-Z commands (R95, R98): each command has one. -/

namespace Sys2Proof

open Sys2Proof.Machine

/-- A legal format-Z word is its opcode alone. -/
theorem packWord_of_legalZ {w : Word} (hop : (opField w).toNat ∈ opcodesZ) (h : ¬ illegalWord w) :
    packWord (opField w) 0 0 = w := by
  rw [illegalWord_of_opcodesZ hop] at h
  push Not at h
  obtain ⟨hz, ht, himm⟩ := h
  have hw := packWord_fields w hz
  rwa [ht, himm] at hw

theorem soleWord_of_opcodesZ {i : Instr} {w : Word} (hop : (opField w).toNat ∈ opcodesZ) (he : encode i = w)
    (hd : decode w = .ok i) : soleWord i w := by
  refine ⟨he, hd, fun v hv hne => ?_⟩
  have hlegal : ¬ illegalWord w := by simp [illegalWord, hd]
  by_contra hv'
  have hvw := packWord_of_legalZ (hv ▸ hop) hv'
  rw [hv, packWord_of_legalZ hop hlegal] at hvw
  exact hne hvw.symm

end Sys2Proof
end

section
/-! The PRNG's statements (R139, R171 to R176): `SEED`, `NEXT` and its exact uniform, and the default `PRNG_STEP`. -/

namespace Sys2Proof.Machine

open Sys2Proof

/-! The default `PRNG_STEP` (R175). -/

theorem evalPrng_standardT (p : PrngWords) : evalPrng standardT p = p.a + p.b + (p.d + 1) := rfl

theorem rotl32_of_ne_zero {n : Nat} (hn : n ≠ 0) (x : Word) : rotl32 x n = x <<< n ||| x >>> (32 - n) := if_neg hn

theorem prngOut_standardPrng (p : PrngWords) : prngOut standardPrng p = p.a + p.b + (p.d + 1) := evalPrng_standardT p

theorem prngNext_standardPrng (p : PrngWords) : prngNext standardPrng p =
    ⟨p.b ^^^ (p.b >>> 9), p.c + (p.c <<< 3), (p.c <<< 21 ||| p.c >>> 11) + (p.a + p.b + (p.d + 1)), p.d + 1⟩ := by
  have hrotl : rotl32 p.c 21 = p.c <<< 21 ||| p.c >>> 11 := rotl32_of_ne_zero (by decide) p.c
  rw [← hrotl, ← evalPrng_standardT]
  rfl

/-- Settles O27: the five terms on any words, and R175's example as an instance of them. -/
theorem standardPrngStep : Obligations.StandardPrngStep := by
  refine ⟨fun a b c d => ⟨prngNext_standardPrng _, prngOut_standardPrng _⟩, ?_, ?_⟩
  · rw [prngNext_standardPrng]
    decide
  · rw [prngOut_standardPrng]
    decide

/-! `SEED` (R171, R172). -/

theorem exec_seed_eq_guarded (s : State) : exec .seed s = guarded .seed [] (fun s => some s.seedPrng) s := rfl

theorem exec_seed (s : State) : exec .seed s = .next s.seedPrng := by
  rw [exec_seed_eq_guarded, guarded_pass (by simp), finish]

@[simp] theorem State.seedPrng_seedPrng (s : State) : s.seedPrng.seedPrng = s.seedPrng := rfl

/-- Settles O28: the seed registers are not written, so that the second `SEED` loads the same words. -/
theorem seedLoadsThePrngFile : Obligations.SeedLoadsThePrngFile := by
  refine ⟨soleWord_of_opcodesZ (by decide) rfl rfl, exec_seed, fun s t h => ?_⟩
  obtain rfl : s.seedPrng = t := Host.Outcome.next.inj ((exec_seed s).symm.trans h)
  rw [exec_seed, State.seedPrng_seedPrng]

/-! `unit` (R139): `t / 2^32` is the value of the subnormal pattern `t` of a format with 32 fraction bits, whose first
normal value is 1; its binary64 pattern is that of the same value in the wider format. -/

/-- The binary64 magnitude pattern of `t / 2^32`. -/
def unitMag (t : Nat) : Nat := widerMag 32 1022 20 t

theorem unitsOfMag_unitMag {t : Nat} (ht : t < 2 ^ 32) : unitsOfMag 52 (unitMag t) = t * 2 ^ 1042 := by
  have hself : unitsOfMag 32 t = t := by
    simpa using unitsOfMag_significand (fbits := 32) (q := 0) (n := t) (by omega) (.inl rfl)
  simpa only [Nat.reduceAdd, hself, unitMag] using
    unitsOfMag_widerMag (fbits := 32) (bias := 1022) (more := 20) (mag := t) (by decide)

/-- The pattern of the largest output word is the largest pattern. -/
theorem unitMag_le {t : Nat} (ht : t < 2 ^ 32) : unitMag t ≤ 0x3FEFFFFFFFE00000 := by
  have hlast : unitMag (2 ^ 32 - 1) = 0x3FEFFFFFFFE00000 := by decide
  rw [← hlast, ← (unitsOfMag_strictMono 52).le_iff_le, unitsOfMag_unitMag ht, unitsOfMag_unitMag (by decide)]
  exact Nat.mul_le_mul_right _ (by omega)

theorem unitMag_of_ne_zero {t : Nat} (hpos : t ≠ 0) (ht : t < 2 ^ 32) :
    unitMag t = (Nat.log2 t + 991) * 2 ^ 52 + (t * 2 ^ (52 - Nat.log2 t) - 2 ^ 52) :=
  widerMag_subnormal hpos ht

theorem unit_zero : unit 0 = 0 := if_pos rfl

theorem unit_of_ne_zero {t : Word} (hne : t ≠ 0) : unit t = BitVec.ofBool false ++
    BitVec.ofNat 11 (Nat.log2 t.toNat + 991) ++ BitVec.ofNat 52 (t.toNat * 2 ^ (52 - Nat.log2 t.toNat)) := by
  rw [← Nat.shiftLeft_eq]
  exact if_neg hne

/-- `unit` writes the exponent of the leading bit and the bits below it. -/
theorem unit_eq_pack64 (t : Word) : unit t = pack64 false (unitMag t.toNat) := by
  obtain rfl | hne := eq_or_ne t 0
  · have hmag : unitMag (0 : Word).toNat = 0 := widerMag_zero ..
    rw [unit_zero, hmag]
    rfl
  · have hpos : t.toNat ≠ 0 := fun h => hne (BitVec.eq_of_toNat_eq h)
    have hlog : Nat.log2 t.toNat < 32 := (Nat.log2_lt hpos).2 t.isLt
    obtain ⟨hlo, hhi⟩ := normalised_bounds (p := 52) hpos (by omega)
    have hfrac : t.toNat * 2 ^ (52 - Nat.log2 t.toNat) % 2 ^ 52 =
        t.toNat * 2 ^ (52 - Nat.log2 t.toNat) - 2 ^ 52 := by omega
    rw [unit_of_ne_zero hne, pack64_fraction (by omega), hfrac, unitMag_of_ne_zero hpos t.isLt]

theorem val64_unit (t : Word) : val64 (unit t) = .fin false (t.toNat * 2 ^ 1042) := by
  have hle := unitMag_le t.isLt
  rw [unit_eq_pack64, val64_pack64_finite (hle.trans_lt (by decide)), unitsOfMag_unitMag t.isLt]

theorem unit_eq_zero_iff {t : Word} : unit t = 0 ↔ t = 0 := by
  refine ⟨fun h => ?_, fun h => h ▸ unit_zero⟩
  have hval : FpVal.fin false (t.toNat * 2 ^ 1042) = .fin false 0 := by
    rw [← val64_unit, h]
    exact val64_zero64 false
  obtain ⟨-, hunits⟩ := FpVal.fin.inj hval
  have hzero := (Nat.mul_eq_zero.1 hunits).resolve_right (pow_ne_zero _ two_ne_zero)
  exact BitVec.eq_of_toNat_eq hzero

theorem unit_toNat_le (t : Word) : (unit t).toNat ≤ 0x3FEFFFFFFFE00000 := by
  have hle := unitMag_le t.isLt
  rwa [unit_eq_pack64, pack64, toNat_sign_append false (by omega), Bool.toNat_false, Nat.zero_mul, Nat.zero_add]

/-! `NEXT` (R173). -/

theorem exec_next_eq_guarded (s : State) :
    exec .next s = guarded .next [] (fun s => some (s.afterDraw.setRes (unit s.drawWord))) s := rfl

theorem exec_next (s : State) : exec .next s = .next (s.afterDraw.setRes (unit s.drawWord)) := by
  rw [exec_next_eq_guarded, guarded_pass (by simp), finish]

/-- Settles O29: one draw, and the facts on `unit` at its output word. -/
theorem nextDrawsOneUniform : Obligations.NextDrawsOneUniform := by
  refine ⟨soleWord_of_opcodesZ (by decide) rfl rfl, fun s => ?_, by decide⟩
  exact ⟨_, exec_next s, rfl, val64_unit _, unit_eq_zero_iff, unit_toNat_le _⟩

end Sys2Proof.Machine
end

section
/-! The sampler's statement (R185 to R187, R189): the elements a loop writes one after another, the state between two
elements of `FILLN`, and `FILLN`. -/

namespace Sys2Proof.Machine

open Sys2Proof

/-! Halfword elements written in order. -/

/-- `m'` is `m` with the elements `first .. first + count - 1` replaced by `v 0 .. v (count - 1)`. -/
structure Memory.HalvesWritten (m : Memory) (first : Nat) (v : Nat → Half) (count : Nat) (m' : Memory) : Prop where
  wf : m'.wf
  written : ∀ k, k < count → BitVec.ofNat 16 (m'.readLE (elemAddr 2 (first + k)) 2) = v k
  kept : ∀ a, outsideHalves first count a → m'.byte a = m.byte a

theorem Memory.HalvesWritten.zero {m : Memory} (hm : m.wf) (first : Nat) (v : Nat → Half) :
    m.HalvesWritten first v 0 m where
  wf := hm
  written _ hk := absurd hk (Nat.not_lt_zero _)
  kept _ _ := rfl

/-- Writing the next element writes one element more. -/
theorem Memory.HalvesWritten.succ {m m' : Memory} {first n : Nat} {v : Nat → Half} (h : m.HalvesWritten first v n m') :
    m.HalvesWritten first v (n + 1) (m'.putHalf (first + n) (v n)) where
  wf := Memory.putHalf_wf _ _ h.wf
  written k hk := by
    rw [Memory.half_putHalf _ _ _ h.wf]
    rcases Nat.lt_succ_iff_lt_or_eq.1 hk with hlt | rfl
    · rw [if_neg (by omega), h.written k hlt]
    · rw [if_pos rfl]
  kept a ha := by
    rw [Memory.byte_putHalf_outside _ _ _ h.wf (ha n n.lt_succ_self)]
    exact h.kept a fun k hk => ha k (Nat.lt_succ_of_lt hk)

/-! The loop of `FILLN` (R185, R187). -/

/-- The sample of element `k`: draws `2k` and `2k + 1` after the seeding (R187). -/
def State.fillSample (s : State) (k : Nat) : Half :=
  gauss s.hw.reals (drawNumber s.hw.prngStep s.seedWords (2 * k)) (drawNumber s.hw.prngStep s.seedWords (2 * k + 1))

/-- The state of a `FILLN` begun in `s` before element `k`, when `LAT` holds `m`. -/
def State.filling (s : State) (k : Nat) (m : Memory) : State :=
  { s with prng := prngAfter s.hw.prngStep s.seedWords (2 * k), lat := m }

theorem State.filling_zero (s : State) : s.filling 0 s.lat = s.seedPrng := rfl

/-- One turn of the loop makes two draws and writes one sample. -/
theorem fillElem_filling {s : State} {k : Nat} (hk : k < bufSize s.hw .lat) (m : Memory) :
    fillElem k (s.filling k m) = some (s.filling (k + 1) (m.putHalf k (s.fillSample k))) :=
  State.write16_of_lt (s := (s.filling k m).afterDraw.afterDraw) hk

/-- The loop completes over any number of elements that `LAT` holds, and makes two draws for each. -/
theorem forElems_fillElem {s : State} {n : Nat} (hs : s.lat.wf) (hn : n ≤ bufSize s.hw .lat) :
    ∃ m, forElems fillElem n 0 s.seedPrng = some (s.filling n m) ∧ s.lat.HalvesWritten 0 s.fillSample n m := by
  have turn : ∀ j u, 0 ≤ j → j < 0 + n → (∃ m, u = s.filling j m ∧ s.lat.HalvesWritten 0 s.fillSample j m) →
      ∃ u', fillElem j u = some u' ∧ ∃ m, u' = s.filling (j + 1) m ∧ s.lat.HalvesWritten 0 s.fillSample (j + 1) m := by
    rintro j _ - hj ⟨m, rfl, hm⟩
    have hm' := hm.succ
    rw [Nat.zero_add] at hm' hj
    exact ⟨_, fillElem_filling (hj.trans_le hn) m, _, rfl, hm'⟩
  obtain ⟨t, ht, m, rfl, hm⟩ := forElems_completes _ turn ⟨s.lat, s.filling_zero.symm, .zero hs 0 _⟩
  rw [Nat.zero_add] at ht hm
  exact ⟨m, ht, hm⟩

/-! `FILLN` (R185). -/

/-- A command that checks the shape first faults beyond the capacity (R208). -/
theorem guarded_checkElems_of_lt {s : State} (h : s.hw.eMax < s.elems) (i : Instr) (checks : List (Option FaultCode))
    (body : State → Option State) :
    guarded i (checkElems s :: checks) body s = .next (s.raise .shapeMismatch (encode i)) :=
  guarded_next.2 (.inl ⟨_, by rw [checkElems, if_pos h, firstFault_some], rfl⟩)

theorem exec_filln_eq_guarded (s : State) :
    exec .filln s = guarded .filln [checkElems s] (fun s => forElems fillElem s.elems 0 s.seedPrng) s := rfl

theorem exec_filln_of_lt {s : State} (h : s.hw.eMax < s.elems) :
    exec .filln s = .next (s.raise .shapeMismatch (encode .filln)) := by
  rw [exec_filln_eq_guarded, guarded_checkElems_of_lt h]

theorem exec_filln_of_le {s : State} (hs : s.lat.wf) (h : s.elems ≤ s.hw.eMax) :
    ∃ m, exec .filln s = .next (s.filling s.elems m) ∧ s.lat.HalvesWritten 0 s.fillSample s.elems m := by
  have hsize : s.elems ≤ bufSize s.hw .lat := h.trans (Nat.le_mul_of_pos_left _ two_pos)
  obtain ⟨m, hloop, hm⟩ := forElems_fillElem hs hsize
  refine ⟨m, ?_, hm⟩
  rw [exec_filln_eq_guarded, guarded_pass (by simpa using h), hloop, finish]

/-- Settles O30: the loop run in order over the `E` elements, each from the two draws that its number names. -/
theorem fillnFillsSlotZeroInOrder : Obligations.FillnFillsSlotZeroInOrder := by
  refine ⟨soleWord_of_opcodesZ (by decide) rfl rfl, fun s hs => ⟨exec_filln_of_lt, fun hle => ?_⟩⟩
  obtain ⟨m, hexec, hm⟩ := exec_filln_of_le (hs.bufs .lat).1 hle
  refine ⟨_, hexec, rfl, fun k hk => ?_, hm.kept⟩
  have hsample := hm.written k hk
  rwa [Nat.zero_add] at hsample

end Sys2Proof.Machine
end

section
/-! The schedule's statements (R202 to R205): the schedule values of an index that passes its check, the difference of equal
neighbours, `SIGMA` and `DELTA`. -/

namespace Sys2Proof.Machine

open Sys2Proof

/-! Schedule values (R202, R203): an index that passes its check is inside the store (R282). -/

theorem schedSigma_of_le {s : State} {i : Nat} (h : i ≤ s.iterCount) : schedSigma i s = some (s.dword .sigma i) :=
  State.read64_of_lt (Nat.lt_succ_of_le (h.trans s.iterCount_le))

theorem schedDelta_of_lt {s : State} {i : Nat} (h : i < s.iterCount) :
    schedDelta i s = some (fsub64 (s.dword .sigma (i + 1)) (s.dword .sigma i)) := by
  have hi : i < s.hw.nMax := h.trans_le s.iterCount_le
  have hlo : s.read64 .sigma i = some (s.dword .sigma i) := State.read64_of_lt (Nat.lt_succ_of_lt hi)
  have hhi : s.read64 .sigma (i + 1) = some (s.dword .sigma (i + 1)) := State.read64_of_lt (Nat.succ_lt_succ hi)
  rw [schedDelta, hhi, hlo]

/-! A finite value less itself (R126, R131). -/

theorem val64_fneg64_fin {x : Dword} {a : Bool} {u : Nat} (h : val64 x = .fin a u) : val64 (fneg64 x) = .fin (!a) u := by
  have hsign : (x ^^^ 0x8000000000000000).msb = !x.msb :=
    BitVec.msb_xor.trans (Bool.xor_true _)
  have hexponent : (x ^^^ 0x8000000000000000).extractLsb' 52 11 = x.extractLsb' 52 11 := by
    rw [BitVec.extractLsb'_xor]
    exact BitVec.xor_zero
  have hfraction : (x ^^^ 0x8000000000000000).extractLsb' 0 52 = x.extractLsb' 0 52 := by
    rw [BitVec.extractLsb'_xor]
    exact BitVec.xor_zero
  rw [fneg64, if_neg (by simp [h]), val64, hsign, hexponent, hfraction]
  unfold val64 valOf at h
  split_ifs at h with htop
  obtain ⟨rfl, rfl⟩ := FpVal.fin.inj h
  exact if_neg htop

theorem fsub64_self_of_fin {x : Dword} {a : Bool} {u : Nat} (h : val64 x = .fin a u) : fsub64 x x = 0 :=
  fadd64_cancel h (val64_fneg64_fin h)

/-! `SIGMA` (R204). -/

theorem exec_sigma_eq_guarded (i : Nat) (s : State) : exec (.sigma i) s =
    guarded (.sigma i) [checkSigma i s] (fun s => (schedSigma i s).map fun v => s.setRes v) s := rfl

theorem exec_sigma_of_lt {s : State} {i : Nat} (h : s.iterCount < i) :
    exec (.sigma i) s = .next (s.raise .scheduleExhausted (encode (.sigma i))) := by
  rw [exec_sigma_eq_guarded]
  exact guarded_next.2 (.inl ⟨_, by rw [checkSigma, if_pos h, firstFault_some], rfl⟩)

theorem exec_sigma_of_le {s : State} {i : Nat} (h : i ≤ s.iterCount) :
    exec (.sigma i) s = .next (s.setRes (s.dword .sigma i)) := by
  rw [exec_sigma_eq_guarded, guarded_pass (by simpa using h), schedSigma_of_le h, Option.map_some, finish]

/-- Settles O32: `i` against `N` decides between the fault and the stored pattern. -/
theorem sigmaReadsTheSchedule : Obligations.SigmaReadsTheSchedule :=
  ⟨fun _ hop => (illegalWord_of_opcodesI (by rw [hop]; decide)).2, fun _ _ => ⟨exec_sigma_of_lt, exec_sigma_of_le⟩⟩

/-! `DELTA` (R205). -/

theorem exec_delta_eq_guarded (i : Nat) (s : State) : exec (.delta i) s =
    guarded (.delta i) [checkDelta i s] (fun s => (schedDelta i s).map fun v => s.setRes v) s := rfl

theorem exec_delta_of_le {s : State} {i : Nat} (h : s.iterCount ≤ i) :
    exec (.delta i) s = .next (s.raise .scheduleExhausted (encode (.delta i))) := by
  have hfails : ¬ s.belowN i := fun hlt => (State.belowN_iff.1 hlt).not_ge h
  rw [exec_delta_eq_guarded]
  exact guarded_next.2 (.inl ⟨_, by rw [checkDelta, if_neg hfails, firstFault_some], rfl⟩)

theorem exec_delta_of_lt {s : State} {i : Nat} (h : i < s.iterCount) :
    exec (.delta i) s = .next (s.setRes (fsub64 (s.dword .sigma (i + 1)) (s.dword .sigma i))) := by
  rw [exec_delta_eq_guarded, guarded_pass (by simpa using h), schedDelta_of_lt h, Option.map_some, finish]

/-- Settles O33: `i` against `N` decides between the fault and the subtraction, which cancels on equal finite entries. -/
theorem deltaSubtractsNeighbours : Obligations.DeltaSubtractsNeighbours := by
  refine ⟨fun _ hop => (illegalWord_of_opcodesI (by rw [hop]; decide)).2,
    fun s i => ⟨exec_delta_of_le, exec_delta_of_lt, fun hi a u heq hfin => ?_⟩⟩
  rw [exec_delta_of_lt hi, heq, fsub64_self_of_fin hfin]
  rfl

end Sys2Proof.Machine
end

section
/-! The element loops of the latent commands (R217 to R229): a loop that writes one buffer element after element, and
what a read inside it sees. -/

namespace Sys2Proof.Machine

open Sys2Proof

/-! Elements while one buffer is being replaced. -/

theorem State.half_setBuf_self (b : Buf) (m : Memory) (i : Nat) (s : State) :
    (s.setBuf b m).half b i = BitVec.ofNat 16 (m.readLE (elemAddr 2 i) 2) := by
  rw [State.half, State.setBuf_buf_self]

theorem State.half_setBuf_of_ne {b b' : Buf} (h : b' ≠ b) (m : Memory) (i : Nat) (s : State) :
    (s.setBuf b m).half b' i = s.half b' i := by
  rw [State.half, State.setBuf_buf_ne _ _ _ _ h, State.half]

/-- An element before or behind the written ones reads as before. -/
theorem Memory.HalvesWritten.half_of_outside {m m' : Memory} {first count i : Nat} {v : Nat → Half}
    (h : m.HalvesWritten first v count m') (hi : i < first ∨ first + count ≤ i) :
    BitVec.ofNat 16 (m'.readLE (elemAddr 2 i) 2) = BitVec.ofNat 16 (m.readLE (elemAddr 2 i) 2) := by
  refine congrArg _ (Memory.readLE_congr _ _ fun a ha ha' => h.kept a fun k hk => ?_)
  simp only [elemAddr] at ha ha' ⊢
  omega

/-- Every buffer holds a batch slot of the largest size (R62). -/
theorem eMax_le_bufSize (h : Hardware) (b : Buf) : h.eMax ≤ bufSize h b := by
  cases b <;> simp only [bufSize] <;> omega

/-! Loops that write one buffer. -/

/-- A loop is its first turn and the loop over the others. -/
theorem forElems_succ (body : Nat → State → Option State) (n k : Nat) (s : State) :
    forElems body (n + 1) k s = (body k s).bind (forElems body n (k + 1)) := by
  rw [forElems]
  cases body k s <;> rfl

/-- A loop whose turns replace nothing but one buffer. -/
theorem forElems_setBuf {b : Buf} {body : Nat → State → Option State} {s : State} {n : Nat} (W : Nat → Memory → Prop)
    (start : W 0 (s.buf b))
    (turn : ∀ k m, k < n → W k m → ∃ m', body k (s.setBuf b m) = some (s.setBuf b m') ∧ W (k + 1) m') :
    ∃ m, forElems body n 0 s = some (s.setBuf b m) ∧ W n m := by
  have turns : ∀ k u, 0 ≤ k → k < 0 + n → (∃ m, u = s.setBuf b m ∧ W k m) →
      ∃ u', body k u = some u' ∧ ∃ m, u' = s.setBuf b m ∧ W (k + 1) m := by
    rintro k _ - hk ⟨m, rfl, hm⟩
    obtain ⟨m', hbody, hm'⟩ := turn k m (by omega) hm
    exact ⟨_, hbody, m', rfl, hm'⟩
  obtain ⟨t, ht, m, rfl, hm⟩ := forElems_completes _ turns ⟨s.buf b, (State.setBuf_buf s b).symm, start⟩
  rw [Nat.zero_add] at hm
  exact ⟨m, ht, hm⟩

/-- A loop whose turn `k` writes `v k` to element `first + k`. -/
theorem forElems_writesHalves {b : Buf} {body : Nat → State → Option State} {s : State} {n first : Nat} {v : Nat → Half}
    (hs : (s.buf b).wf)
    (turn : ∀ k m, k < n → (s.buf b).HalvesWritten first v k m →
      body k (s.setBuf b m) = some (s.setBuf b (m.putHalf (first + k) (v k)))) :
    ∃ m, forElems body n 0 s = some (s.setBuf b m) ∧ (s.buf b).HalvesWritten first v n m :=
  forElems_setBuf _ (.zero hs first v) fun k m hk hm => ⟨_, turn k m hk hm, hm.succ⟩

/-- A loop whose turn `k` replaces element `k` of `LAT`, which no earlier turn has written. -/
theorem forElems_updatesLat {body : Nat → State → Option State} {s : State} {n : Nat} {v : Nat → Half} (hs : s.lat.wf)
    (turn : ∀ k m, k < n → (s.setBuf .lat m).half .lat k = s.half .lat k →
      body k (s.setBuf .lat m) = some (s.setBuf .lat (m.putHalf k (v k)))) :
    ∃ m, forElems body n 0 s = some (s.setBuf .lat m) ∧ s.lat.HalvesWritten 0 v n m := by
  refine forElems_writesHalves (b := .lat) hs fun k m hk hm => ?_
  rw [Nat.zero_add]
  refine turn k m hk ?_
  rw [State.half_setBuf_self, hm.half_of_outside (.inr (by omega))]
  rfl

/-! Faults of a guarded command. -/

theorem guarded_raises {checks : List (Option FaultCode)} {f : FaultCode} (h : firstFault checks = some f) (i : Instr)
    (body : State → Option State) (s : State) : guarded i checks body s = .next (s.raise f (encode i)) :=
  guarded_next.2 (.inl ⟨f, h, rfl⟩)

end Sys2Proof.Machine
end

section
/-! `DUP`, `PRESC` and `VSCALE` (R217, R218, R229). -/

namespace Sys2Proof.Machine

open Sys2Proof

/-! `DUP` (R217). -/

theorem dupElem_of_lt {e k : Nat} {s : State} (hk : k < bufSize s.hw .lat) (hek : e + k < bufSize s.hw .lat) :
    dupElem e k s = some (s.setBuf .lat (s.lat.putHalf (e + k) (s.half .lat k))) := by
  rw [dupElem, State.read16_of_lt hk, Option.bind_some, State.write16_of_lt hek]
  rfl

theorem exec_dup_eq_guarded (s : State) :
    exec .dup s = guarded .dup [checkElems s] (fun s => forElems (dupElem s.elems) s.elems 0 s) s := rfl

theorem exec_dup_of_lt {s : State} (h : s.hw.eMax < s.elems) :
    exec .dup s = .next (s.raise .shapeMismatch (encode .dup)) := by
  rw [exec_dup_eq_guarded, guarded_checkElems_of_lt h]

/-- The copies go behind slot 0, so that every turn reads an element as it was before the command. -/
theorem exec_dup_of_le {s : State} (hs : s.lat.wf) (h : s.elems ≤ s.hw.eMax) :
    ∃ m, exec .dup s = .next (s.setBuf .lat m) ∧ s.lat.HalvesWritten s.elems (s.half .lat) s.elems m := by
  have hsize : bufSize s.hw .lat = 2 * s.hw.eMax := rfl
  have turn : ∀ k m, k < s.elems → s.lat.HalvesWritten s.elems (s.half .lat) k m →
      dupElem s.elems k (s.setBuf .lat m) = some (s.setBuf .lat (m.putHalf (s.elems + k) (s.half .lat k))) := by
    intro k m hk hm
    have hread : (s.setBuf .lat m).half .lat k = s.half .lat k := by
      rw [State.half_setBuf_self, hm.half_of_outside (.inl hk)]
      rfl
    rw [dupElem_of_lt (by rw [State.setBuf_hw]; omega) (by rw [State.setBuf_hw]; omega), hread, State.setBuf_setBuf]
    rfl
  obtain ⟨m, hloop, hm⟩ := forElems_writesHalves (b := .lat) hs turn
  refine ⟨m, ?_, hm⟩
  rw [exec_dup_eq_guarded, guarded_pass (by simpa using h), hloop, finish]

/-- Settles O36: the loop over the `E` elements, its writes behind its reads. -/
theorem dupCopiesSlotZero : Obligations.DupCopiesSlotZero := by
  refine ⟨soleWord_of_opcodesZ (by decide) rfl rfl, fun s hs => ⟨exec_dup_of_lt, fun hle => ?_⟩⟩
  obtain ⟨m, hexec, hm⟩ := exec_dup_of_le (hs.bufs .lat).1 hle
  exact ⟨_, hexec, rfl, hm.written, hm.kept⟩

/-! `PRESC` (R218). -/

theorem prescElem_of_lt {s0 : Dword} {k : Nat} {s : State} (hk : k < bufSize s.hw .lat) :
    prescElem s0 k s = some (s.setBuf .lat (s.lat.putHalf k (scaleHalf s0 (s.half .lat k)))) := by
  rw [prescElem, State.read16_of_lt hk, Option.bind_some, State.write16_of_lt hk]
  rfl

theorem exec_presc_eq_guarded (s : State) : exec .presc s =
    guarded .presc [checkElems s, checkSigma 0 s]
      (fun s => (schedSigma 0 s).bind fun s0 =>
        (forElems (prescElem s0) s.elems 0 s).map fun s' => s'.setRun true 0) s := rfl

theorem exec_presc_of_lt {s : State} (h : s.hw.eMax < s.elems) :
    exec .presc s = .next (s.raise .shapeMismatch (encode .presc)) := by
  rw [exec_presc_eq_guarded, guarded_checkElems_of_lt h]

theorem exec_presc_of_le {s : State} (hs : s.lat.wf) (h : s.elems ≤ s.hw.eMax) :
    ∃ m, exec .presc s = .next ((s.setBuf .lat m).setRun true 0) ∧
      s.lat.HalvesWritten 0 (fun k => scaleHalf (s.dword .sigma 0) (s.half .lat k)) s.elems m := by
  have turn : ∀ k m, k < s.elems → (s.setBuf .lat m).half .lat k = s.half .lat k →
      prescElem (s.dword .sigma 0) k (s.setBuf .lat m) =
        some (s.setBuf .lat (m.putHalf k (scaleHalf (s.dword .sigma 0) (s.half .lat k)))) := by
    intro k m hk hread
    have hsize : k < bufSize (s.setBuf .lat m).hw .lat := (hk.trans_le h).trans_le (eMax_le_bufSize _ _)
    rw [prescElem_of_lt hsize, hread, State.setBuf_setBuf]
    rfl
  obtain ⟨m, hloop, hm⟩ := forElems_updatesLat hs turn
  refine ⟨m, ?_, hm⟩
  rw [exec_presc_eq_guarded, guarded_pass (by simpa using h), schedSigma_of_le (Nat.zero_le _), Option.bind_some, hloop,
    Option.map_some, finish]

/-- Settles O37: each element is scaled in place; a run begins at its end exactly when it has no iteration. -/
theorem prescScalesAndStartsTheRun : Obligations.PrescScalesAndStartsTheRun := by
  refine ⟨soleWord_of_opcodesZ (by decide) rfl rfl, fun s hs => ⟨exec_presc_of_lt, fun hle => ?_⟩⟩
  obtain ⟨m, hexec, hm⟩ := exec_presc_of_le (hs.bufs .lat).1 hle
  refine ⟨_, hexec, rfl, ?_, fun k hk => ?_, hm.kept⟩
  · simp [State.term, State.iterCount]
  · have helem := hm.written k hk
    rwa [Nat.zero_add] at helem

/-! `VSCALE` (R229). -/

theorem vscaleElem_of_lt {scale : Dword} {k : Nat} {s : State} (hk : k < s.hw.eMax) :
    vscaleElem scale k s = some (s.setBuf .out (s.out.putHalf k (vaeElem scale (s.half .lat k)))) := by
  rw [vscaleElem, State.read16_of_lt (hk.trans_le (eMax_le_bufSize _ _)), Option.bind_some,
    State.write16_of_lt (hk.trans_le (eMax_le_bufSize _ _))]
  rfl

theorem exec_vscale_eq_guarded (s : State) :
    exec .vscale s = guarded .vscale [checkElems s] (fun s => forElems (vscaleElem s.vaescale) s.elems 0 s) s := rfl

theorem exec_vscale_of_lt {s : State} (h : s.hw.eMax < s.elems) :
    exec .vscale s = .next (s.raise .shapeMismatch (encode .vscale)) := by
  rw [exec_vscale_eq_guarded, guarded_checkElems_of_lt h]

theorem exec_vscale_of_le {s : State} (hs : s.out.wf) (h : s.elems ≤ s.hw.eMax) :
    ∃ m, exec .vscale s = .next (s.setBuf .out m) ∧
      s.out.HalvesWritten 0 (fun k => vaeElem s.vaescale (s.half .lat k)) s.elems m := by
  have turn : ∀ k m, k < s.elems → s.out.HalvesWritten 0 (fun k => vaeElem s.vaescale (s.half .lat k)) k m →
      vscaleElem s.vaescale k (s.setBuf .out m) =
        some (s.setBuf .out (m.putHalf (0 + k) (vaeElem s.vaescale (s.half .lat k)))) := by
    intro k m hk _
    have hread : (s.setBuf .out m).half .lat k = s.half .lat k := State.half_setBuf_of_ne (by decide) _ _ _
    rw [vscaleElem_of_lt (by rw [State.setBuf_hw]; exact hk.trans_le h), hread, State.setBuf_setBuf, Nat.zero_add]
    rfl
  obtain ⟨m, hloop, hm⟩ := forElems_writesHalves (b := .out) hs turn
  refine ⟨m, ?_, hm⟩
  rw [exec_vscale_eq_guarded, guarded_pass (by simpa using h), hloop, finish]

/-- Settles O41: the loop reads `LAT` and writes `OUT`. -/
theorem vscaleDividesIntoOut : Obligations.VscaleDividesIntoOut := by
  refine ⟨soleWord_of_opcodesZ (by decide) rfl rfl, fun s hs => ⟨exec_vscale_of_lt, fun hle => ?_⟩⟩
  obtain ⟨m, hexec, hm⟩ := exec_vscale_of_le (hs.bufs .out).1 hle
  refine ⟨_, hexec, rfl, fun k hk => ?_, hm.kept⟩
  have helem := hm.written k hk
  rwa [Nat.zero_add] at helem

end Sys2Proof.Machine
end

section
/-! `SVIEW` (R219): one value for both slots of `SCR`. -/

namespace Sys2Proof.Machine

open Sys2Proof

/-- `m'` is `m` with the first `count` elements of both slots of `e` elements replaced, element `k` of each by `v k`. -/
structure Memory.SlotsWritten (m : Memory) (e : Nat) (v : Nat → Half) (count : Nat) (m' : Memory) : Prop where
  wf : m'.wf
  slotZero : ∀ k, k < count → BitVec.ofNat 16 (m'.readLE (elemAddr 2 k) 2) = v k
  slotOne : ∀ k, k < count → BitVec.ofNat 16 (m'.readLE (elemAddr 2 (e + k)) 2) = v k
  kept : ∀ a, outsideHalves 0 count a → outsideHalves e count a → m'.byte a = m.byte a

theorem Memory.SlotsWritten.zero {m : Memory} (hm : m.wf) (e : Nat) (v : Nat → Half) : m.SlotsWritten e v 0 m where
  wf := hm
  slotZero _ hk := absurd hk (Nat.not_lt_zero _)
  slotOne _ hk := absurd hk (Nat.not_lt_zero _)
  kept _ _ _ := rfl

/-- Writing the next element of both slots writes one element of each more. -/
theorem Memory.SlotsWritten.succ {m m' : Memory} {e n : Nat} {v : Nat → Half} (h : m.SlotsWritten e v n m')
    (hn : n < e) : m.SlotsWritten e v (n + 1) ((m'.putHalf n (v n)).putHalf (e + n) (v n)) := by
  have hwf : (m'.putHalf n (v n)).wf := Memory.putHalf_wf _ _ h.wf
  refine ⟨Memory.putHalf_wf _ _ hwf, fun k hk => ?_, fun k hk => ?_, fun a h0 h1 => ?_⟩
  · rw [Memory.half_putHalf _ _ _ hwf, if_neg (by omega), Memory.half_putHalf _ _ _ h.wf]
    rcases Nat.lt_succ_iff_lt_or_eq.1 hk with hlt | rfl
    · rw [if_neg hlt.ne, h.slotZero k hlt]
    · rw [if_pos rfl]
  · rw [Memory.half_putHalf _ _ _ hwf, Memory.half_putHalf _ _ _ h.wf]
    rcases Nat.lt_succ_iff_lt_or_eq.1 hk with hlt | rfl
    · rw [if_neg (by omega), if_neg (by omega), h.slotOne k hlt]
    · rw [if_pos rfl]
  · have hn0 := h0 n n.lt_succ_self
    rw [Nat.zero_add] at hn0
    rw [Memory.byte_putHalf_outside _ _ _ hwf (h1 n n.lt_succ_self), Memory.byte_putHalf_outside _ _ _ h.wf hn0]
    exact h.kept a (fun k hk => h0 k (Nat.lt_succ_of_lt hk)) fun k hk => h1 k (Nat.lt_succ_of_lt hk)

/-- Outside both slots is outside each. -/
theorem outsideHalves_two_mul {e a : Nat} (h : outsideHalves 0 (2 * e) a) :
    outsideHalves 0 e a ∧ outsideHalves e e a := by
  refine ⟨fun k hk => h k (by omega), fun k hk => ?_⟩
  have hek := h (e + k) (by omega)
  rwa [Nat.zero_add] at hek

theorem sviewElem_of_lt {inv : Dword} {e k : Nat} {s : State} (hk : k < bufSize s.hw .scr)
    (hek : e + k < bufSize s.hw .scr) : sviewElem inv e k s =
      some (s.setBuf .scr
        ((s.scr.putHalf k (scaleHalf inv (s.half .lat k))).putHalf (e + k) (scaleHalf inv (s.half .lat k)))) := by
  rw [sviewElem, State.read16_of_lt (b := .lat) hk, Option.bind_some, State.write16_of_lt hk, Option.bind_some,
    State.write16_of_lt (by rwa [State.setBuf_hw]), State.setBuf_setBuf]
  rfl

theorem exec_sview_eq_guarded (s : State) : exec .sview s =
    guarded .sview [checkElems s, checkIterDefined s, checkSigma s.iter.toNat s]
      (fun s => (schedSigma s.iter.toNat s).bind fun sg =>
        forElems (sviewElem (viewFactor sg) s.elems) s.elems 0 s) s := rfl

theorem exec_sview_of_lt {s : State} (h : s.hw.eMax < s.elems) :
    exec .sview s = .next (s.raise .shapeMismatch (encode .sview)) := by
  rw [exec_sview_eq_guarded, guarded_checkElems_of_lt h]

/-- `ITER` undefined or beyond `N` (R202, R231). -/
theorem exec_sview_of_exhausted {s : State} (h : s.elems ≤ s.hw.eMax)
    (hiter : s.ivalid = false ∨ s.iterCount < s.iter.toNat) :
    exec .sview s = .next (s.raise .scheduleExhausted (encode .sview)) := by
  rw [exec_sview_eq_guarded]
  refine guarded_raises ?_ _ _ _
  rw [checkElems_eq_none.2 h, firstFault_none]
  obtain hundef | hbeyond := hiter
  · simp [checkIterDefined, hundef]
  · cases hdef : s.ivalid <;> simp [checkIterDefined, checkSigma, hdef, hbeyond]

theorem exec_sview_of_le {s : State} (hs : s.scr.wf) (h : s.elems ≤ s.hw.eMax) (hdef : s.ivalid = true)
    (hiter : s.iter.toNat ≤ s.iterCount) :
    ∃ m, exec .sview s = .next (s.setBuf .scr m) ∧
      s.scr.SlotsWritten s.elems (fun k => scaleHalf (viewFactor (s.dword .sigma s.iter.toNat)) (s.half .lat k))
        s.elems m := by
  have hsize : bufSize s.hw .scr = 2 * s.hw.eMax := rfl
  generalize hinv : viewFactor (s.dword .sigma s.iter.toNat) = inv
  have turn : ∀ k m, k < s.elems → s.scr.SlotsWritten s.elems (fun k => scaleHalf inv (s.half .lat k)) k m →
      ∃ m', sviewElem inv s.elems k (s.setBuf .scr m) = some (s.setBuf .scr m') ∧
        s.scr.SlotsWritten s.elems (fun k => scaleHalf inv (s.half .lat k)) (k + 1) m' := by
    intro k m hk hm
    have hread : (s.setBuf .scr m).half .lat k = s.half .lat k := State.half_setBuf_of_ne (by decide) _ _ _
    refine ⟨_, ?_, hm.succ hk⟩
    rw [sviewElem_of_lt (by rw [State.setBuf_hw]; omega) (by rw [State.setBuf_hw]; omega), hread, State.setBuf_setBuf]
    rfl
  obtain ⟨m, hloop, hm⟩ := forElems_setBuf (b := .scr) _ (.zero hs s.elems _) turn
  refine ⟨m, ?_, hm⟩
  rw [exec_sview_eq_guarded, guarded_pass (by simp [h, hdef, hiter]), schedSigma_of_le hiter, Option.bind_some, hinv,
    hloop, finish]

/-- Settles O38: each turn writes one value twice, and `LAT` is only read. -/
theorem sviewBuildsTheScaledView : Obligations.SviewBuildsTheScaledView := by
  refine ⟨soleWord_of_opcodesZ (by decide) rfl rfl, fun s hs => ⟨exec_sview_of_lt, exec_sview_of_exhausted, ?_⟩⟩
  intro hle hdef hiter
  obtain ⟨m, hexec, hm⟩ := exec_sview_of_le (hs.bufs .scr).1 hle hdef hiter
  refine ⟨_, hexec, rfl, fun k hk => ⟨hm.slotZero k hk, (hm.slotOne k hk).trans (hm.slotZero k hk).symm⟩,
    fun a ha => ?_⟩
  obtain ⟨hzero, hone⟩ := outsideHalves_two_mul ha
  exact hm.kept a hzero hone

end Sys2Proof.Machine
end

section
/-! `STEPC` and `STEPS` (R222, R223): the checks and the body that both have, the schedule difference, and the loop. -/

namespace Sys2Proof.Machine

open Sys2Proof

/-! What the two commands share. -/

/-- The checks of a step command behind those of its descriptors (R231). -/
def stepChecks (s : State) : List (Option FaultCode) :=
  [checkElems s, checkIterDefined s, checkDelta s.iter.toNat s]

/-- The body of a step command with the element turn `elem`. -/
def guidedStep (elem : Dword → Nat → State → Option State) (s : State) : Option State :=
  (schedDelta s.iter.toNat s).bind fun delta =>
    (forElems (elem delta) s.elems 0 s).map fun s' => s'.setRun s'.ivalid (s'.iter + 1)

/-- `sched_delta(ITER)` (R203). -/
def State.nextDelta (s : State) : Dword :=
  fsub64 (s.dword .sigma (s.iter.toNat + 1)) (s.dword .sigma s.iter.toNat)

theorem exec_stepc_eq_guarded (s : State) : exec .stepc s =
    guarded .stepc (checkPredDtypeC s :: checkPredShapeC s :: stepChecks s)
      (fun s => guidedStep (fun delta => stepcElem s.gscale delta s.elems) s) s := rfl

theorem exec_steps_eq_guarded (s : State) : exec .steps s =
    guarded .steps (checkPredDtypeS s :: checkPredShapeS s :: stepChecks s)
      (fun s => guidedStep (fun delta => stepsElem s.gscale delta) s) s := rfl

theorem guidedStep_of_lt {s : State} (h : s.iter.toNat < s.iterCount)
    (elem : Dword → Nat → State → Option State) :
    guidedStep elem s =
      (forElems (elem s.nextDelta) s.elems 0 s).map fun s' => s'.setRun s'.ivalid (s'.iter + 1) := by
  rw [guidedStep, schedDelta_of_lt h, Option.bind_some, State.nextDelta]

/-- A step whose turns each replace one element of `LAT`. -/
theorem guidedStep_updatesLat {s : State} {elem : Dword → Nat → State → Option State} {v : Nat → Half} (hs : s.lat.wf)
    (h : s.iter.toNat < s.iterCount)
    (turn : ∀ k m, k < s.elems → (s.setBuf .lat m).half .lat k = s.half .lat k →
      elem s.nextDelta k (s.setBuf .lat m) = some (s.setBuf .lat (m.putHalf k (v k)))) :
    ∃ m, guidedStep elem s = some ((s.setBuf .lat m).setRun s.ivalid (s.iter + 1)) ∧
      s.lat.HalvesWritten 0 v s.elems m := by
  obtain ⟨m, hloop, hm⟩ := forElems_updatesLat hs turn
  refine ⟨m, ?_, hm⟩
  rw [guidedStep_of_lt h, hloop, Option.map_some, State.setBuf_ivalid, State.setBuf_iter]

theorem dimsMatch_iff {batch : Word} {d : TensorDesc} {s : State} :
    s.dimsMatch batch d ↔ (d.dim0, d.dim1, d.dim2, d.dim3) = (batch, s.latC, s.latH, s.latW) := by
  simp only [State.dimsMatch, Prod.mk.injEq]

/-- The shape checks of a step command: the descriptors' extents, then the capacity (R261). -/
theorem firstFault_of_shape {p : Prop} [Decidable p] {s : State} (h : ¬ (p ∧ s.elems ≤ s.hw.eMax)) :
    firstFault ((if p then none else some .shapeMismatch) :: stepChecks s) = some .shapeMismatch := by
  by_cases hp : p
  · have hlarge : s.hw.eMax < s.elems := not_le.1 fun hle => h ⟨hp, hle⟩
    rw [if_pos hp, firstFault_none, stepChecks, checkElems, if_pos hlarge, firstFault_some]
  · rw [if_neg hp, firstFault_some]

/-- `ITER` undefined or at its end (R203, R231). -/
theorem firstFault_stepChecks_of_exhausted {s : State} (h : s.elems ≤ s.hw.eMax)
    (hiter : s.ivalid = false ∨ s.iterCount ≤ s.iter.toNat) : firstFault (stepChecks s) = some .scheduleExhausted := by
  rw [stepChecks, checkElems_eq_none.2 h, firstFault_none]
  obtain hundef | hend := hiter
  · simp [checkIterDefined, hundef]
  · have hfails : ¬ s.belowN s.iter.toNat := fun hlt => (State.belowN_iff.1 hlt).not_ge hend
    cases hdef : s.ivalid <;>
      simp only [checkIterDefined, checkDelta, hdef, hfails, if_true, if_false, Bool.false_eq_true, firstFault_none,
        firstFault_some]

theorem stepChecks_pass {s : State} (h : s.elems ≤ s.hw.eMax) (hdef : s.ivalid = true)
    (hiter : s.iter.toNat < s.iterCount) : ∀ c ∈ stepChecks s, c = none := by
  simp [stepChecks, h, hdef, hiter]

/-! The iteration index after a step (R35, R36): it does not wrap, since `N` fits 16 bits. -/

theorem iter_add_one_toNat {s : State} (h : s.iter.toNat < s.iterCount) : (s.iter + 1).toNat = s.iter.toNat + 1 := by
  have hN := s.iterCount_lt
  have hone : (1 : BitVec 16).toNat = 1 := rfl
  rw [BitVec.toNat_add, hone, Nat.mod_eq_of_lt (by omega)]

/-- The step that reaches `N` terminates the run. -/
theorem term_after_step {s : State} (hdef : s.ivalid = true) (h : s.iter.toNat < s.iterCount) (m : Memory) :
    ((s.setBuf .lat m).setRun s.ivalid (s.iter + 1)).term = true ↔ (s.iter + 1).toNat = s.iterCount := by
  simp only [State.term, State.setRun_ivalid, State.setRun_iter, State.setRun_iterCount, State.setBuf_iterCount, hdef,
    Bool.true_and, decide_eq_true_eq, iter_add_one_toNat h]
  omega

/-! `STEPC` (R222). -/

theorem stepcElem_of_lt {gscale delta : Dword} {e k : Nat} {s : State} (hk : k < bufSize s.hw .lat)
    (hek : e + k < bufSize s.hw .pred) : stepcElem gscale delta e k s =
      some (s.setBuf .lat
        (s.lat.putHalf k (stepElem gscale delta (s.half .lat k) (s.half .pred k) (s.half .pred (e + k))))) := by
  rw [stepcElem, State.read16_of_lt (b := .pred) hk, Option.bind_some, State.read16_of_lt hek, Option.bind_some,
    State.read16_of_lt hk, Option.bind_some, State.write16_of_lt hk]
  rfl

/-- A turn of a combined step begun in `s`. -/
theorem stepcElem_setBuf {gscale delta : Dword} {k : Nat} {s : State} (hk : k < s.elems) (hle : s.elems ≤ s.hw.eMax)
    (m : Memory) : stepcElem gscale delta s.elems k (s.setBuf .lat m) =
      some (s.setBuf .lat (m.putHalf k (stepElem gscale delta ((s.setBuf .lat m).half .lat k) (s.half .pred k)
        (s.half .pred (s.elems + k))))) := by
  have hsize : ∀ i, i < 2 * s.elems → i < 2 * (s.setBuf .lat m).hw.eMax := fun i hi => by rw [State.setBuf_hw]; omega
  rw [stepcElem_of_lt (hsize k (by omega)) (hsize _ (by omega)), State.half_setBuf_of_ne (b' := .pred) (by decide),
    State.half_setBuf_of_ne (b' := .pred) (by decide), State.setBuf_setBuf]
  rfl

theorem exec_stepc_of_dtype {s : State} (h : s.predDesc.dt ≠ 0x1) :
    exec .stepc s = .next (s.raise .unsupportedDType (encode .stepc)) := by
  rw [exec_stepc_eq_guarded]
  refine guarded_raises ?_ _ _ _
  rw [checkPredDtypeC, checkTag, if_neg (c := s.predDesc.dt = tagF16) h, firstFault_some]

theorem exec_stepc_of_shape {s : State} (hdt : s.predDesc.dt = 0x1)
    (h : ¬ (s.dimsMatch 2 s.predDesc ∧ s.elems ≤ s.hw.eMax)) :
    exec .stepc s = .next (s.raise .shapeMismatch (encode .stepc)) := by
  rw [exec_stepc_eq_guarded]
  refine guarded_raises ?_ _ _ _
  rw [checkPredDtypeC_eq_none.2 hdt, firstFault_none]
  exact firstFault_of_shape h

theorem exec_stepc_of_exhausted {s : State} (hdt : s.predDesc.dt = 0x1) (hdims : s.dimsMatch 2 s.predDesc)
    (hle : s.elems ≤ s.hw.eMax) (h : s.ivalid = false ∨ s.iterCount ≤ s.iter.toNat) :
    exec .stepc s = .next (s.raise .scheduleExhausted (encode .stepc)) := by
  rw [exec_stepc_eq_guarded]
  refine guarded_raises ?_ _ _ _
  rw [checkPredDtypeC_eq_none.2 hdt, firstFault_none, checkPredShapeC_eq_none.2 hdims, firstFault_none]
  exact firstFault_stepChecks_of_exhausted hle h

theorem exec_stepc_of_checks {s : State} (hdt : s.predDesc.dt = 0x1) (hdims : s.dimsMatch 2 s.predDesc)
    (hle : s.elems ≤ s.hw.eMax) (hdef : s.ivalid = true) (hiter : s.iter.toNat < s.iterCount) :
    exec .stepc s = finish (guidedStep (fun delta => stepcElem s.gscale delta s.elems) s) := by
  rw [exec_stepc_eq_guarded]
  exact guarded_pass (List.forall_mem_cons.2 ⟨checkPredDtypeC_eq_none.2 hdt,
    List.forall_mem_cons.2 ⟨checkPredShapeC_eq_none.2 hdims, stepChecks_pass hle hdef hiter⟩⟩)

/-- Element `k` after a step of the combined layout. -/
def State.stepcHalf (s : State) (k : Nat) : Half :=
  stepElem s.gscale s.nextDelta (s.half .lat k) (s.half .pred k) (s.half .pred (s.elems + k))

theorem guidedStep_stepcElem {s : State} (hs : s.lat.wf) (hle : s.elems ≤ s.hw.eMax)
    (hiter : s.iter.toNat < s.iterCount) :
    ∃ m, guidedStep (fun delta => stepcElem s.gscale delta s.elems) s =
        some ((s.setBuf .lat m).setRun s.ivalid (s.iter + 1)) ∧ s.lat.HalvesWritten 0 s.stepcHalf s.elems m := by
  refine guidedStep_updatesLat hs hiter fun k m hk hread => ?_
  rw [stepcElem_setBuf hk hle, hread, State.stepcHalf]

/-- Settles O39: the checks in their order, then one turn for each element. -/
theorem stepcTakesOneGuidedStep : Obligations.StepcTakesOneGuidedStep := by
  refine ⟨soleWord_of_opcodesZ (by decide) rfl rfl, fun s hs => ⟨exec_stepc_of_dtype, ?shape, ?exhausted, ?completes⟩⟩
  case shape =>
    intro hdt hshape
    rw [← dimsMatch_iff] at hshape
    exact exec_stepc_of_shape hdt hshape
  case exhausted =>
    rintro hdt ⟨hdims, hle⟩ hiter
    exact exec_stepc_of_exhausted hdt (dimsMatch_iff.2 hdims) hle hiter
  case completes =>
    rintro hdt ⟨hdims, hle⟩ hdef hiter
    obtain ⟨m, hstep, hm⟩ := guidedStep_stepcElem (hs.bufs .lat).1 hle hiter
    refine ⟨_, (exec_stepc_of_checks hdt (dimsMatch_iff.2 hdims) hle hdef hiter).trans (congrArg finish hstep), rfl,
      iter_add_one_toNat hiter, term_after_step hdef hiter m, fun k hk => ?_, hm.kept⟩
    have helem := hm.written k hk
    rwa [Nat.zero_add] at helem

/-! `STEPS` (R223). -/

theorem stepsElem_of_lt {gscale delta : Dword} {k : Nat} {s : State} (hk : k < s.hw.eMax) :
    stepsElem gscale delta k s =
      some (s.setBuf .lat
        (s.lat.putHalf k (stepElem gscale delta (s.half .lat k) (s.half .predp k) (s.half .predn k)))) := by
  have hsize : ∀ b, k < bufSize s.hw b := fun b => hk.trans_le (eMax_le_bufSize _ b)
  rw [stepsElem, State.read16_of_lt (hsize .predp), Option.bind_some, State.read16_of_lt (hsize .predn),
    Option.bind_some, State.read16_of_lt (hsize .lat), Option.bind_some, State.write16_of_lt (hsize .lat)]
  rfl

/-- A turn of a split step begun in `s`. -/
theorem stepsElem_setBuf {gscale delta : Dword} {k : Nat} {s : State} (hk : k < s.elems) (hle : s.elems ≤ s.hw.eMax)
    (m : Memory) : stepsElem gscale delta k (s.setBuf .lat m) =
      some (s.setBuf .lat (m.putHalf k (stepElem gscale delta ((s.setBuf .lat m).half .lat k) (s.half .predp k)
        (s.half .predn k)))) := by
  rw [stepsElem_of_lt (by rw [State.setBuf_hw]; exact hk.trans_le hle),
    State.half_setBuf_of_ne (b' := .predp) (by decide), State.half_setBuf_of_ne (b' := .predn) (by decide),
    State.setBuf_setBuf]
  rfl

theorem exec_steps_of_dtype {s : State} (h : ¬ (s.predpDesc.dt = 0x1 ∧ s.prednDesc.dt = 0x1)) :
    exec .steps s = .next (s.raise .unsupportedDType (encode .steps)) := by
  rw [exec_steps_eq_guarded]
  refine guarded_raises ?_ _ _ _
  rw [checkPredDtypeS, tagF16, if_neg h, firstFault_some]

theorem exec_steps_of_shape {s : State} (hdt : s.predpDesc.dt = 0x1 ∧ s.prednDesc.dt = 0x1)
    (h : ¬ ((s.dimsMatch 1 s.predpDesc ∧ s.dimsMatch 1 s.prednDesc) ∧ s.elems ≤ s.hw.eMax)) :
    exec .steps s = .next (s.raise .shapeMismatch (encode .steps)) := by
  rw [exec_steps_eq_guarded]
  refine guarded_raises ?_ _ _ _
  rw [checkPredDtypeS_eq_none.2 hdt, firstFault_none]
  exact firstFault_of_shape h

theorem exec_steps_of_exhausted {s : State} (hdt : s.predpDesc.dt = 0x1 ∧ s.prednDesc.dt = 0x1)
    (hdims : s.dimsMatch 1 s.predpDesc ∧ s.dimsMatch 1 s.prednDesc) (hle : s.elems ≤ s.hw.eMax)
    (h : s.ivalid = false ∨ s.iterCount ≤ s.iter.toNat) :
    exec .steps s = .next (s.raise .scheduleExhausted (encode .steps)) := by
  rw [exec_steps_eq_guarded]
  refine guarded_raises ?_ _ _ _
  rw [checkPredDtypeS_eq_none.2 hdt, firstFault_none, checkPredShapeS_eq_none.2 hdims, firstFault_none]
  exact firstFault_stepChecks_of_exhausted hle h

theorem exec_steps_of_checks {s : State} (hdt : s.predpDesc.dt = 0x1 ∧ s.prednDesc.dt = 0x1)
    (hdims : s.dimsMatch 1 s.predpDesc ∧ s.dimsMatch 1 s.prednDesc) (hle : s.elems ≤ s.hw.eMax)
    (hdef : s.ivalid = true) (hiter : s.iter.toNat < s.iterCount) :
    exec .steps s = finish (guidedStep (fun delta => stepsElem s.gscale delta) s) := by
  rw [exec_steps_eq_guarded]
  exact guarded_pass (List.forall_mem_cons.2 ⟨checkPredDtypeS_eq_none.2 hdt,
    List.forall_mem_cons.2 ⟨checkPredShapeS_eq_none.2 hdims, stepChecks_pass hle hdef hiter⟩⟩)

/-- Element `k` after a step of the split layout. -/
def State.stepsHalf (s : State) (k : Nat) : Half :=
  stepElem s.gscale s.nextDelta (s.half .lat k) (s.half .predp k) (s.half .predn k)

theorem guidedStep_stepsElem {s : State} (hs : s.lat.wf) (hle : s.elems ≤ s.hw.eMax)
    (hiter : s.iter.toNat < s.iterCount) :
    ∃ m, guidedStep (fun delta => stepsElem s.gscale delta) s =
        some ((s.setBuf .lat m).setRun s.ivalid (s.iter + 1)) ∧ s.lat.HalvesWritten 0 s.stepsHalf s.elems m := by
  refine guidedStep_updatesLat hs hiter fun k m hk hread => ?_
  rw [stepsElem_setBuf hk hle, hread, State.stepsHalf]

/-- Settles O40: the checks in their order, then one turn for each element. -/
theorem stepsTakesOneGuidedStep : Obligations.StepsTakesOneGuidedStep := by
  refine ⟨soleWord_of_opcodesZ (by decide) rfl rfl, fun s hs => ⟨exec_steps_of_dtype, ?shape, ?exhausted, ?completes⟩⟩
  case shape =>
    refine fun hdt hshape => exec_steps_of_shape hdt ?_
    rintro ⟨⟨hdimsp, hdimsn⟩, hle⟩
    exact hshape ⟨dimsMatch_iff.1 hdimsp, dimsMatch_iff.1 hdimsn, hle⟩
  case exhausted =>
    rintro hdt ⟨hdimsp, hdimsn, hle⟩ hiter
    exact exec_steps_of_exhausted hdt ⟨dimsMatch_iff.2 hdimsp, dimsMatch_iff.2 hdimsn⟩ hle hiter
  case completes =>
    rintro hdt ⟨hdimsp, hdimsn, hle⟩ hdef hiter
    have hdims := And.intro (dimsMatch_iff.2 hdimsp) (dimsMatch_iff.2 hdimsn)
    obtain ⟨m, hstep, hm⟩ := guidedStep_stepsElem (hs.bufs .lat).1 hle hiter
    refine ⟨_, (exec_steps_of_checks hdt hdims hle hdef hiter).trans (congrArg finish hstep), rfl,
      iter_add_one_toNat hiter, term_after_step hdef hiter m, fun k hk => ?_, hm.kept⟩
    have helem := hm.written k hk
    rwa [Nat.zero_add] at helem

/-! The two layouts (R224). -/

/-- With the same predictions in both layouts the two loops pass through the same states and complete. -/
theorem forElems_stepcElem_stepsElem {gscale delta : Dword} {s : State} (hle : s.elems ≤ s.hw.eMax)
    (hsame : ∀ k, k < s.elems → s.half .predp k = s.half .pred k ∧ s.half .predn k = s.half .pred (s.elems + k)) :
    ∃ t, forElems (stepcElem gscale delta s.elems) s.elems 0 s = some t ∧
      forElems (stepsElem gscale delta) s.elems 0 s = some t := by
  obtain ⟨m, hloop, -⟩ := forElems_setBuf (b := .lat) (fun _ _ => True) trivial fun k m hk _ =>
    ⟨_, stepcElem_setBuf (gscale := gscale) (delta := delta) hk hle m, trivial⟩
  refine ⟨_, hloop, (forElems_congr (fun u => ∃ m, u = s.setBuf .lat m) ?agree ?keep ⟨s.lat, rfl⟩).symm.trans hloop⟩
  case agree =>
    rintro k _ - hk ⟨m, rfl⟩
    rw [Nat.zero_add] at hk
    obtain ⟨hp, hn⟩ := hsame k hk
    rw [stepcElem_setBuf hk hle, stepsElem_setBuf hk hle, hp, hn]
  case keep =>
    rintro k _ u - hk ⟨m, rfl⟩ hu
    rw [stepcElem_setBuf (by omega) hle] at hu
    exact ⟨_, (Option.some.inj hu).symm⟩

/-- Settles O42: the descriptors pass all checks of both commands, and the bodies differ in their loops only. -/
theorem splitStepEqualsCombinedStep : Obligations.SplitStepEqualsCombinedStep := by
  intro s e hpred hpredp hpredn hle hdef hiter hsame
  have hcombined := exec_stepc_of_checks (s := s) (by rw [hpred]) (dimsMatch_iff.2 (by rw [hpred])) hle hdef hiter
  have hsplit := exec_steps_of_checks (s := s) ⟨by rw [hpredp], by rw [hpredn]⟩
    ⟨dimsMatch_iff.2 (by rw [hpredp]), dimsMatch_iff.2 (by rw [hpredn])⟩ hle hdef hiter
  obtain ⟨t, hloopc, hloops⟩ := forElems_stepcElem_stepsElem (gscale := s.gscale) (delta := s.nextDelta) hle hsame
  rw [guidedStep_of_lt hiter, hloopc] at hcombined
  rw [guidedStep_of_lt hiter, hloops] at hsplit
  exact ⟨_, hcombined, hsplit⟩

end Sys2Proof.Machine
end

section
/-! The unguided step (R225): a product by 1.0 and a sum with a zero give a value back, and a negative prediction counts
by `+0`. -/

namespace Sys2Proof.Machine

open Sys2Proof

/-! Values that an operation gives back. -/

theorem eq_of_val64_fin {d : Dword} {a : Bool} {u : Nat} (hv : val64 d = .fin a u) :
    ∃ m, m < infMag64 ∧ d = pack64 a m ∧ u = unitsOfMag 52 m := by
  obtain ⟨b, m, hm, rfl⟩ := exists_sign_append (w := 63) d
  have hval : val64 (pack64 b m) = .fin a u := hv
  rw [val64_pack64 hm] at hval
  obtain ⟨rfl, hlt, hu⟩ := valOfMag_eq_fin hm hval
  exact ⟨m, hlt, rfl, hu⟩

/-- A finite value rounds to its own pattern (R125). -/
theorem round64_of_val64 {d : Dword} {a : Bool} {u den : Nat} (hv : val64 d = .fin a u) (hden : 0 < den) :
    round64 a (den * u) den = d := by
  obtain ⟨m, hm, rfl, rfl⟩ := eq_of_val64_fin hv
  rw [round64, (roundsTo_unitsOfMag hden m).roundUnits_eq (by decide) hden, Nat.min_eq_left hm.le]

theorem val64_ONE64 : val64 ONE64 = .fin false (2 ^ 1074) := by
  have hpattern : ONE64 = pack64 false ((1022 + 1) * 2 ^ 52) := by decide
  rw [hpattern, val64_pack64_finite (by decide), unitsOfMag_exponent]

theorem fmul64_ONE64_of_fin {x : Dword} {a : Bool} {u : Nat} (hx : val64 x = .fin a u) : fmul64 x ONE64 = x := by
  rw [fmul64_fin_fin hx val64_ONE64, Bool.xor_false, Nat.mul_comm, round64_of_val64 hx (by positivity)]

theorem fmul64_ONE64_inf64 (a : Bool) : fmul64 (inf64 a) ONE64 = inf64 a := by
  rw [fmul64_inf_fin (val64_inf64 a) val64_ONE64, if_neg (by positivity), Bool.xor_false]

theorem fadd64_zero64_of_fin {x : Dword} {a : Bool} {u : Nat} (hx : val64 x = .fin a u) (hu : u ≠ 0) (b : Bool) :
    fadd64 x (zero64 b) = x := by
  have hsum : signedUnits a u + signedUnits b 0 = signedUnits a u := by cases b <;> simp [signedUnits]
  have hmag : (signedUnits a u).natAbs = 1 * u := by cases a <;> simp [signedUnits]
  have hne : signedUnits a u ≠ 0 := by cases a <;> simpa [signedUnits]
  have hsign : decide (signedUnits a u < 0) = a := by cases a <;> simp [signedUnits, Nat.pos_of_ne_zero hu]
  rw [fadd64_fin_fin hx (val64_zero64 b), hsum, if_neg hne, hsign, hmag, round64_of_val64 hx Nat.one_pos]

/-- Zeros sum to `-0` only when both are `-0` (R131). -/
theorem fadd64_zero64_zero64 (a b : Bool) : fadd64 (zero64 a) (zero64 b) = zero64 (a && b) := by
  cases a <;> cases b
  case false.false => exact fadd64_zero64_self false
  case true.true => exact fadd64_zero64_self true
  case false.true => exact fadd64_cancel (val64_zero64 false) (val64_zero64 true)
  case true.false => exact fadd64_cancel (val64_zero64 true) (val64_zero64 false)

theorem fsub64_ONE64_self : fsub64 ONE64 ONE64 = 0 := fsub64_self_of_fin val64_ONE64

/-! Predictions as binary64 values. -/

theorem val64_h2d_of_fin {h : Half} {a : Bool} {u : Nat} (hv : val16 h = .fin a u) :
    val64 (h2d h) = .fin a (u * 2 ^ 1050) := by
  obtain ⟨m, hm, rfl, rfl⟩ := eq_of_val16_fin hv
  exact val64_h2d_finite hm a

theorem h2d_of_zero {h : Half} {a : Bool} (hv : val16 h = .fin a 0) : h2d h = zero64 a := by
  have hval := val64_h2d_of_fin hv
  rw [Nat.zero_mul] at hval
  obtain ⟨m, -, hm, hu⟩ := eq_of_val64_fin hval
  obtain rfl : m = 0 := (unitsOfMag_strictMono 52).injective (hu.symm.trans (unitsOfMag_zero 52).symm)
  exact hm

theorem h2d_of_inf {h : Half} {a : Bool} (hv : val16 h = .inf a) : h2d h = inf64 a := by
  rw [eq_of_val16_inf hv, h2d_infinity]

theorem val64_h2d_of_nan {h : Half} (hv : val16 h = .nan) : val64 (h2d h) = .nan := by
  obtain ⟨a, m, he, hf, rfl⟩ := eq_of_val16_nan hv
  rw [h2d_nan he hf, val64_pack64 (by omega), valOfMag_nan (by omega) (by omega)]

/-! The blend and the step with `GSCALE = 1.0`. -/

theorem stepElem_ONE64 (delta : Dword) (s p n : Half) : stepElem ONE64 delta s p n =
    d2h (fadd64 (h2d s) (fmul64 (fadd64 (fmul64 (h2d p) ONE64) (fmul64 (h2d n) 0)) delta)) := by
  rw [stepElem, negativeWeight, fsub64_ONE64_self, cfgBlend, euler]

theorem val64_zero : val64 0 = .fin false 0 := val64_zero64 false

theorem fmul64_h2d_zero_of_fin {n : Half} {b : Bool} {v : Nat} (hn : val16 n = .fin b v) :
    fmul64 (h2d n) 0 = zero64 b := by
  rw [fmul64_fin_fin (val64_h2d_of_fin hn) val64_zero, Nat.mul_zero, round64_zero, Bool.xor_false]

theorem val64_canonNaN64 : val64 canonNaN64 = .nan := by decide

/-- A finite negative prediction drops out of the product of the blend, unless the positive one is a zero. -/
theorem fmul64_blend_of_ne_zero {p n : Half} {b : Bool} {v : Nat} (hn : val16 n = .fin b v)
    (hp : ∀ a, val16 p ≠ .fin a 0) (delta : Dword) :
    fmul64 (fadd64 (fmul64 (h2d p) ONE64) (fmul64 (h2d n) 0)) delta = fmul64 (h2d p) delta := by
  rw [fmul64_h2d_zero_of_fin hn]
  cases hclass : val16 p with
  | nan =>
    have hnan := val64_h2d_of_nan hclass
    rw [fmul64_nan (.inl hnan), fmul64_nan (.inl hnan), fadd64_nan (.inl val64_canonNaN64),
      fmul64_nan (.inl val64_canonNaN64)]
  | inf a =>
    rw [h2d_of_inf hclass, fmul64_ONE64_inf64, fadd64_inf_fin (val64_inf64 a) (val64_zero64 b)]
  | fin a u =>
    have hu : u * 2 ^ 1050 ≠ 0 := Nat.mul_ne_zero (fun h0 => hp a (h0 ▸ hclass)) (by positivity)
    have hval := val64_h2d_of_fin hclass
    rw [fmul64_ONE64_of_fin hval, fadd64_zero64_of_fin hval hu]

theorem blend_of_zero {p n : Half} {a b : Bool} {v : Nat} (hn : val16 n = .fin b v) (hp : val16 p = .fin a 0) :
    fadd64 (fmul64 (h2d p) ONE64) (fmul64 (h2d n) 0) = if a && b then h2d p else 0 := by
  rw [fmul64_h2d_zero_of_fin hn, h2d_of_zero hp, fmul64_ONE64_of_fin (val64_zero64 a), fadd64_zero64_zero64]
  cases a <;> cases b <;> rfl

/-- An infinity or a NaN by `+0` is the NaN, which every later operation keeps. -/
theorem fmul64_h2d_zero_of_not_fin {n : Half} (hn : val16 n = .nan ∨ ∃ b, val16 n = .inf b) :
    fmul64 (h2d n) 0 = canonNaN64 := by
  obtain hnan | ⟨b, hinf⟩ := hn
  · exact fmul64_nan (.inl (val64_h2d_of_nan hnan))
  · rw [h2d_of_inf hinf, fmul64_inf_fin (val64_inf64 b) val64_zero, if_pos rfl]

/-- Settles O43: the class of the negative prediction decides what its product by `+0` adds. -/
theorem unguidedStepIsPlainEuler : Obligations.UnguidedStepIsPlainEuler := by
  refine ⟨fsub64_ONE64_self, fun delta s p n => ⟨fun b v hn hp => ?_, fun a b v hn hp => ?_, fun hn => ?_⟩⟩
  · rw [stepElem_ONE64, fmul64_blend_of_ne_zero hn hp]
  · rw [stepElem_ONE64, blend_of_zero hn hp]
    exact ⟨rfl, rfl⟩
  · obtain ⟨-, -, -, -, -, -, -, hcanon⟩ := composedConversions
    rw [stepElem_ONE64, fmul64_h2d_zero_of_not_fin hn, fadd64_nan (.inr val64_canonNaN64),
      fmul64_nan (.inl val64_canonNaN64), fadd64_nan (.inr val64_canonNaN64), hcanon]

end Sys2Proof.Machine
end

section
/-! Slot 1 of `LAT` (R230). Two states that differ only there stay so: a rule for each way a command's body is put
together (reads, updates, element writes, loops), then the 17 bodies by the rules. -/

namespace Sys2Proof.Machine

open Sys2Proof

/-! A command as its checks and its body. -/

/-- The checks of a command, in priority order (R269). -/
def commandChecks (i : Instr) (s : State) : List (Option FaultCode) :=
  match i with
  | .nop | .abort | .clrf | .seed | .next => []
  | .enc dt | .dec dt => [checkTag dt]
  | .filln | .dup | .vscale => [checkElems s]
  | .presc => [checkElems s, checkSigma 0 s]
  | .sview => [checkElems s, checkIterDefined s, checkSigma s.iter.toNat s]
  | .stepc => checkPredDtypeC s :: checkPredShapeC s :: stepChecks s
  | .steps => checkPredDtypeS s :: checkPredShapeS s :: stepChecks s
  | .sigma k => [checkSigma k s]
  | .delta k => [checkDelta k s]
  | .tstep k => [checkTimestep k s]

/-- What a command does once its checks have passed. -/
def commandBody (i : Instr) (s : State) : Option State :=
  match i with
  | .nop => some s
  | .abort => some (s.setRun false 0)
  | .clrf => some s.clearFault
  | .enc _ => some (s.setRes ((encodeHalf s.opa).setWidth 64))
  | .dec _ => some (s.setRes ((decodeHalf (s.opa.extractLsb' 0 16)).setWidth 64))
  | .seed => some s.seedPrng
  | .next => some (s.afterDraw.setRes (unit s.drawWord))
  | .filln => forElems fillElem s.elems 0 s.seedPrng
  | .dup => forElems (dupElem s.elems) s.elems 0 s
  | .presc =>
    (schedSigma 0 s).bind fun s0 => (forElems (prescElem s0) s.elems 0 s).map fun s' => s'.setRun true 0
  | .sview =>
    (schedSigma s.iter.toNat s).bind fun sg => forElems (sviewElem (viewFactor sg) s.elems) s.elems 0 s
  | .stepc => guidedStep (fun delta => stepcElem s.gscale delta s.elems) s
  | .steps => guidedStep (fun delta => stepsElem s.gscale delta) s
  | .vscale => forElems (vscaleElem s.vaescale) s.elems 0 s
  | .sigma k => (schedSigma k s).map fun v => s.setRes v
  | .delta k => (schedDelta k s).map fun v => s.setRes v
  | .tstep k => (schedTimestep k s).map fun d => s.setTimestep d

theorem exec_eq_guarded (i : Instr) (s : State) : exec i s = guarded i (commandChecks i s) (commandBody i) s := by
  cases i <;> rfl

/-! States that differ in slot 1 only. -/

/-- With slot 0 of `e` elements, `s'` is `s` but for bytes of `LAT` outside slot 0. -/
structure SameButSlotOne (e : Nat) (s s' : State) : Prop where
  elems : s.elems = e
  wf : s.lat.wf
  wf' : s'.lat.wf
  rest : s' = s.setBuf .lat s'.lat
  slotZero : ∀ a, a < elemAddr 2 e → s'.lat.byte a = s.lat.byte a

section
variable {e : Nat} {s s' : State}

/-- What does not depend on `LAT` is the same in both states. -/
theorem SameButSlotOne.congr {α : Type} {r : State → α} (h : SameButSlotOne e s s')
    (hr : ∀ u m, r (u.setBuf .lat m) = r u) : r s' = r s := by
  rw [h.rest, hr]

/-- An update beside `LAT`. -/
theorem SameButSlotOne.update {f : State → State} (h : SameButSlotOne e s s') (hlat : ∀ u, (f u).lat = u.lat)
    (helems : ∀ u, (f u).elems = u.elems) (hf : ∀ u m, f (u.setBuf .lat m) = (f u).setBuf .lat m) :
    SameButSlotOne e (f s) (f s') where
  elems := (helems s).trans h.elems
  wf := hlat s ▸ h.wf
  wf' := hlat s' ▸ h.wf'
  rest := by rw [hlat, ← hf, ← h.rest]
  slotZero a ha := by rw [hlat, hlat, h.slotZero a ha]

theorem SameButSlotOne.half_lat (h : SameButSlotOne e s s') {k : Nat} (hk : k < e) :
    s'.half .lat k = s.half .lat k := by
  refine congrArg (BitVec.ofNat 16) (Memory.readLE_congr _ _ fun a _ ha => h.slotZero a ?_)
  simp only [elemAddr] at ha ⊢
  omega

theorem SameButSlotOne.read16 (h : SameButSlotOne e s s') {b : Buf} {k : Nat} (hk : b = .lat → k < e) :
    s'.read16 b k = s.read16 b k := by
  have hhalf : s'.half b k = s.half b k := by
    by_cases hb : b = .lat
    · subst hb
      exact h.half_lat (hk rfl)
    · rw [h.rest, State.half_setBuf_of_ne hb]
  have hhw : s'.hw = s.hw := h.congr fun _ _ => rfl
  rw [State.read16, State.read16, hhalf, hhw]

/-- A byte after the same write to two memories in which it is the same. -/
theorem Memory.byte_writeLE_congr {m m' : Memory} {b : Nat} (hm : m.wf) (hm' : m'.wf) (h : m'.byte b = m.byte b)
    (a n v : Nat) : (m'.writeLE a n v).byte b = (m.writeLE a n v).byte b := by
  induction n generalizing m m' a v with
  | zero => exact h
  | succ n ih =>
    refine ih (Memory.put_wf _ _ hm) (Memory.put_wf _ _ hm') ?_ _ _
    rw [Memory.byte_put _ _ _ hm, Memory.byte_put _ _ _ hm', h]

/-- The same element written in both states, in whichever buffer and slot. -/
theorem SameButSlotOne.setBuf_putHalf (h : SameButSlotOne e s s') (b : Buf) (i : Nat) (v : Half) :
    SameButSlotOne e (s.setBuf b ((s.buf b).putHalf i v)) (s'.setBuf b ((s'.buf b).putHalf i v)) := by
  by_cases hb : b = .lat
  · subst hb
    have hrest : s'.setBuf .lat (s'.lat.putHalf i v) = s.setBuf .lat (s'.lat.putHalf i v) :=
      (congrArg (State.setBuf .lat _) h.rest).trans (State.setBuf_setBuf ..)
    exact ⟨h.elems, Memory.putHalf_wf _ _ h.wf, Memory.putHalf_wf _ _ h.wf', hrest, fun a ha =>
      Memory.byte_writeLE_congr h.wf h.wf' (h.slotZero a ha) _ _ _⟩
  · have hbuf : s'.buf b = s.buf b := h.congr (r := State.buf b) fun u m => State.setBuf_buf_ne _ _ _ _ hb
    rw [hbuf]
    refine h.update (f := fun u => u.setBuf b ((s.buf b).putHalf i v)) (fun u => ?_) (fun u => State.setBuf_elems ..)
      fun u m => ?_
    · exact State.setBuf_buf_ne u b .lat _ (Ne.symm hb)
    · cases b with
      | lat => exact absurd rfl hb
      | _ => rfl

end

/-! Computations that keep the difference in slot 1. -/

/-- States that differ in slot 1 only are taken to such states. -/
def KeepsSlotOneApart (e : Nat) (f : State → Option State) : Prop :=
  ∀ s s' t t', SameButSlotOne e s s' → f s = some t → f s' = some t' → SameButSlotOne e t t'

namespace KeepsSlotOneApart

variable {e : Nat}

theorem update {f : State → State} (hlat : ∀ u, (f u).lat = u.lat) (helems : ∀ u, (f u).elems = u.elems)
    (hf : ∀ u m, f (u.setBuf .lat m) = (f u).setBuf .lat m) : KeepsSlotOneApart e fun s => some (f s) := by
  rintro s s' _ _ h ⟨⟩ ⟨⟩
  exact h.update hlat helems hf

/-- What is read does not show the difference. -/
theorem bind {α : Type} {r : State → Option α} {g : α → State → Option State}
    (hr : ∀ s s', SameButSlotOne e s s' → r s' = r s) (hg : ∀ x, KeepsSlotOneApart e (g x)) :
    KeepsSlotOneApart e fun s => (r s).bind fun x => g x s := by
  intro s s' t t' h ht ht'
  obtain ⟨x, hx, ht⟩ := Option.bind_eq_some_iff.1 ht
  obtain ⟨x', hx', ht'⟩ := Option.bind_eq_some_iff.1 ht'
  obtain rfl : x = x' := Option.some.inj (hx.symm.trans ((hr s s' h).symm.trans hx'))
  exact hg x s s' t t' h ht ht'

/-- One computation after another. -/
theorem andThen {f g : State → Option State} (hf : KeepsSlotOneApart e f) (hg : KeepsSlotOneApart e g) :
    KeepsSlotOneApart e fun s => (f s).bind g := by
  intro s s' t t' h ht ht'
  obtain ⟨u, hu, ht⟩ := Option.bind_eq_some_iff.1 ht
  obtain ⟨u', hu', ht'⟩ := Option.bind_eq_some_iff.1 ht'
  exact hg u u' t t' (hf s s' u u' h hu hu') ht ht'

theorem write16 (b : Buf) (i : Nat) (v : Half) : KeepsSlotOneApart e fun s => s.write16 b i v := by
  intro s s' t t' h ht ht'
  obtain ⟨-, rfl⟩ := State.write16_eq_some.1 ht
  obtain ⟨-, rfl⟩ := State.write16_eq_some.1 ht'
  exact h.setBuf_putHalf b i v

theorem forElems {body : Nat → State → Option State} {n : Nat} (hbody : ∀ k, k < n → KeepsSlotOneApart e (body k)) :
    KeepsSlotOneApart e (forElems body n 0) := by
  suffices loop : ∀ m k, k + m ≤ n → KeepsSlotOneApart e (Machine.forElems body m k) from loop n 0 (by omega)
  intro m
  induction m with
  | zero =>
    rintro k - s s' _ _ h ⟨⟩ ⟨⟩
    exact h
  | succ m ih =>
    intro k hk
    have hturns := andThen (hbody k (by omega)) (ih (k + 1) (by omega))
    rwa [← funext (forElems_succ body m k)] at hturns

/-- A body that uses the element count of slot 0. -/
theorem withElems {g : Nat → State → Option State} (hg : KeepsSlotOneApart e (g e)) :
    KeepsSlotOneApart e fun s => g s.elems s := by
  intro s s' t t' h ht ht'
  have helems' : s'.elems = e := (h.congr fun _ _ => rfl).trans h.elems
  have hg' : ∀ u, u.elems = e → g u.elems u = g e u := fun u hu => by rw [hu]
  exact hg s s' t t' h ((hg' s h.elems).symm.trans ht) ((hg' s' helems').symm.trans ht')

/-- A value read beside `LAT`. -/
theorem readRest {α : Type} {r : State → Option α} {g : α → State → Option State}
    (hr : ∀ u m, r (u.setBuf .lat m) = r u) (hg : ∀ x, KeepsSlotOneApart e (g x)) :
    KeepsSlotOneApart e fun s => (r s).bind fun x => g x s :=
  bind (fun _ _ h => h.congr hr) hg

/-- A body that uses a value beside `LAT`. -/
theorem withValue {α : Type} (val : State → α) {g : α → State → Option State}
    (hval : ∀ u m, val (u.setBuf .lat m) = val u) (hg : ∀ x, KeepsSlotOneApart e (g x)) :
    KeepsSlotOneApart e fun s => g (val s) s :=
  readRest (r := fun s => some (val s)) (fun u m => congrArg some (hval u m)) hg

/-- An element read from slot 0, or from another buffer. -/
theorem read16 {b : Buf} {k : Nat} {g : Half → State → Option State} (hk : b = .lat → k < e)
    (hg : ∀ x, KeepsSlotOneApart e (g x)) : KeepsSlotOneApart e fun s => (s.read16 b k).bind fun x => g x s :=
  bind (fun _ _ h => h.read16 hk) hg

/-- An update at the end. -/
theorem map {f : State → Option State} {g : State → State} (hf : KeepsSlotOneApart e f)
    (hlat : ∀ u, (g u).lat = u.lat) (helems : ∀ u, (g u).elems = u.elems)
    (hg : ∀ u m, g (u.setBuf .lat m) = (g u).setBuf .lat m) : KeepsSlotOneApart e fun s => (f s).map g := by
  simp only [Option.map_eq_bind]
  exact andThen hf (update hlat helems hg)

/-- An update by a value of the schedule. -/
theorem map_value {r : State → Option Dword} (hr : ∀ u m, r (u.setBuf .lat m) = r u) {f : Dword → State → State}
    (hlat : ∀ d u, (f d u).lat = u.lat) (helems : ∀ d u, (f d u).elems = u.elems)
    (hf : ∀ d u m, f d (u.setBuf .lat m) = (f d u).setBuf .lat m) :
    KeepsSlotOneApart e fun s => (r s).map fun d => f d s := by
  simp only [Option.map_eq_bind]
  exact readRest hr fun d => update (hlat d) (helems d) (hf d)

end KeepsSlotOneApart

/-! The commands. -/

section
variable {e : Nat}

theorem keepsSlotOneApart_fillElem (k : Nat) : KeepsSlotOneApart e (fillElem k) :=
  .withValue (fun s => gauss s.hw.reals (unit s.drawWord) (unit s.afterDraw.drawWord))
    (g := fun x s => s.afterDraw.afterDraw.write16 .lat k x) (fun _ _ => rfl) fun x =>
    .andThen (f := fun s => some s.afterDraw.afterDraw) (.update (fun _ => rfl) (fun _ => rfl) fun _ _ => rfl)
      (.write16 .lat k x)

theorem keepsSlotOneApart_dupElem {k : Nat} (hk : k < e) : KeepsSlotOneApart e (dupElem e k) :=
  .read16 (fun _ => hk) fun x => .write16 .lat (e + k) x

theorem keepsSlotOneApart_prescElem (s0 : Dword) {k : Nat} (hk : k < e) : KeepsSlotOneApart e (prescElem s0 k) :=
  .read16 (fun _ => hk) fun x => .write16 .lat k (scaleHalf s0 x)

theorem keepsSlotOneApart_sviewElem (inv : Dword) {k : Nat} (hk : k < e) : KeepsSlotOneApart e (sviewElem inv e k) :=
  .read16 (fun _ => hk) fun x => .andThen (.write16 .scr k (scaleHalf inv x)) (.write16 .scr (e + k) (scaleHalf inv x))

theorem keepsSlotOneApart_stepcElem (gscale delta : Dword) {k : Nat} (hk : k < e) :
    KeepsSlotOneApart e (stepcElem gscale delta e k) :=
  .read16 nofun fun p => .read16 nofun fun n => .read16 (fun _ => hk) fun x =>
    .write16 .lat k (stepElem gscale delta x p n)

theorem keepsSlotOneApart_stepsElem (gscale delta : Dword) {k : Nat} (hk : k < e) :
    KeepsSlotOneApart e (stepsElem gscale delta k) :=
  .read16 nofun fun p => .read16 nofun fun n => .read16 (fun _ => hk) fun x =>
    .write16 .lat k (stepElem gscale delta x p n)

theorem keepsSlotOneApart_vscaleElem (scale : Dword) {k : Nat} (hk : k < e) :
    KeepsSlotOneApart e (vscaleElem scale k) :=
  .read16 (fun _ => hk) fun x => .write16 .out k (vaeElem scale x)

theorem keepsSlotOneApart_guidedStep {elem : Dword → Nat → State → Option State}
    (h : ∀ delta k, k < e → KeepsSlotOneApart e (elem delta k)) : KeepsSlotOneApart e (guidedStep elem) :=
  .withElems (g := fun n s => (schedDelta s.iter.toNat s).bind fun delta =>
      (forElems (elem delta) n 0 s).map fun s' => s'.setRun s'.ivalid (s'.iter + 1))
    (.readRest (fun _ _ => rfl) fun delta =>
      .map (g := fun s' => s'.setRun s'.ivalid (s'.iter + 1)) (.forElems (h delta)) (fun _ => rfl) (fun _ => rfl)
        fun _ _ => rfl)

theorem State.setTimestep_lat (d : Dword) (s : State) : (s.setTimestep d).lat = s.lat := by
  unfold State.setTimestep
  cases roundAway d <;> rfl

theorem State.setTimestep_elems (d : Dword) (s : State) : (s.setTimestep d).elems = s.elems := by
  unfold State.setTimestep
  cases roundAway d <;> rfl

theorem State.setTimestep_setBuf_lat (d : Dword) (m : Memory) (s : State) :
    (s.setBuf .lat m).setTimestep d = (s.setTimestep d).setBuf .lat m := by
  unfold State.setTimestep
  cases roundAway d <;> rfl

/-- No body reads `LAT` outside slot 0. -/
theorem keepsSlotOneApart_commandBody (i : Instr) : KeepsSlotOneApart e (commandBody i) := by
  cases i with
  | nop => exact .update (f := id) (fun _ => rfl) (fun _ => rfl) fun _ _ => rfl
  | abort | clrf | enc | dec | seed | next => exact .update (fun _ => rfl) (fun _ => rfl) fun _ _ => rfl
  | filln =>
    refine .withElems (g := fun n s => forElems fillElem n 0 s.seedPrng) ?_
    exact .andThen (f := fun s => some s.seedPrng) (.update (fun _ => rfl) (fun _ => rfl) fun _ _ => rfl)
      (.forElems fun k _ => keepsSlotOneApart_fillElem k)
  | dup => exact .withElems (g := fun n => forElems (dupElem n) n 0) (.forElems fun _ => keepsSlotOneApart_dupElem)
  | presc =>
    refine .readRest (r := schedSigma 0)
      (g := fun s0 s => (forElems (prescElem s0) s.elems 0 s).map fun s' => s'.setRun true 0) (fun _ _ => rfl)
      fun s0 => ?_
    refine .map (g := fun s' => s'.setRun true 0) ?_ (fun _ => rfl) (fun _ => rfl) fun _ _ => rfl
    exact .withElems (g := fun n => forElems (prescElem s0) n 0) (.forElems fun _ => keepsSlotOneApart_prescElem s0)
  | sview =>
    refine .readRest (fun _ _ => rfl) fun sg => ?_
    exact .withElems (g := fun n => forElems (sviewElem (viewFactor sg) n) n 0)
      (.forElems fun _ => keepsSlotOneApart_sviewElem _)
  | stepc =>
    refine .withElems (g := fun n s => guidedStep (fun delta => stepcElem s.gscale delta n) s) ?_
    exact .withValue State.gscale (g := fun x => guidedStep fun delta => stepcElem x delta e) (fun _ _ => rfl) fun x =>
      keepsSlotOneApart_guidedStep fun delta _ => keepsSlotOneApart_stepcElem x delta
  | steps =>
    exact .withValue State.gscale (g := fun x => guidedStep fun delta => stepsElem x delta) (fun _ _ => rfl) fun x =>
      keepsSlotOneApart_guidedStep fun delta _ => keepsSlotOneApart_stepsElem x delta
  | vscale =>
    refine .withValue State.vaescale (g := fun x s => forElems (vscaleElem x) s.elems 0 s) (fun _ _ => rfl) fun x => ?_
    exact .withElems (g := fun n => forElems (vscaleElem x) n 0) (.forElems fun _ => keepsSlotOneApart_vscaleElem x)
  | sigma | delta => exact .map_value (fun _ _ => rfl) (fun _ _ => rfl) (fun _ _ => rfl) fun _ _ _ => rfl
  | tstep =>
    exact .map_value (fun _ _ => rfl) State.setTimestep_lat State.setTimestep_elems fun d u m =>
      State.setTimestep_setBuf_lat d m u

end

/-- Every command takes states that differ in slot 1 only to such states. -/
theorem exec_sameButSlotOne {e : Nat} {i : Instr} {s s' t t' : State} (h : SameButSlotOne e s s')
    (ht : exec i s = .next t) (ht' : exec i s' = .next t') : SameButSlotOne e t t' := by
  have hchecks : commandChecks i s' = commandChecks i s := h.congr fun _ _ => by cases i <;> rfl
  rw [exec_eq_guarded, guarded_next] at ht ht'
  rw [hchecks] at ht'
  obtain ⟨f, hf, rfl⟩ | ⟨hpass, hbody⟩ := ht <;> obtain ⟨f', hf', rfl⟩ | ⟨hpass', hbody'⟩ := ht'
  · obtain rfl : f = f' := Option.some.inj (hf.symm.trans hf')
    exact h.update (fun _ => rfl) (fun _ => rfl) fun _ _ => rfl
  · exact absurd (hf.symm.trans hpass') (Option.some_ne_none f)
  · exact absurd (hf'.symm.trans hpass) (Option.some_ne_none f')
  · exact keepsSlotOneApart_commandBody i s s' t t' h hbody hbody'

/-! The commands that write `LAT`. -/

theorem commandBody_lat_of_ne_dup {i : Instr} {s t : State} (hs : s.MemoryOk) (hi : i ≠ .dup)
    (hpass : ∀ c ∈ commandChecks i s, c = none) (h : commandBody i s = some t) :
    t.lat = s.lat ∨ ∃ v, s.lat.HalvesWritten 0 v s.elems t.lat := by
  have hlat := (hs.bufs .lat).1
  have hexec : exec i s = .next t := by rw [exec_eq_guarded, guarded_pass hpass, h, finish]
  cases i with
  | nop | abort | clrf | enc | dec | seed | next => exact .inl (Option.some.inj h ▸ rfl)
  | dup => exact absurd rfl hi
  | filln =>
    obtain ⟨m, hspec, hm⟩ := exec_filln_of_le hlat (by simpa [commandChecks] using hpass)
    obtain rfl := Host.Outcome.next.inj (hexec.symm.trans hspec)
    exact .inr ⟨_, hm⟩
  | presc =>
    obtain ⟨m, hspec, hm⟩ := exec_presc_of_le hlat (by simpa [commandChecks] using hpass)
    obtain rfl := Host.Outcome.next.inj (hexec.symm.trans hspec)
    exact .inr ⟨_, hm⟩
  | sview =>
    obtain ⟨hle, hdef, hiter⟩ : s.elems ≤ s.hw.eMax ∧ s.ivalid = true ∧ s.iter.toNat ≤ s.iterCount := by
      simpa [commandChecks] using hpass
    obtain ⟨m, hspec, -⟩ := exec_sview_of_le (hs.bufs .scr).1 hle hdef hiter
    exact .inl (Host.Outcome.next.inj (hexec.symm.trans hspec) ▸ rfl)
  | stepc =>
    obtain ⟨-, -, hle, -, hiter⟩ : s.predDesc.dt = tagF16 ∧ s.dimsMatch 2 s.predDesc ∧ s.elems ≤ s.hw.eMax ∧
        s.ivalid = true ∧ s.iter.toNat < s.iterCount := by
      simpa [commandChecks, stepChecks] using hpass
    obtain ⟨m, hspec, hm⟩ := guidedStep_stepcElem hlat hle hiter
    obtain rfl := Option.some.inj (h.symm.trans hspec)
    exact .inr ⟨_, hm⟩
  | steps =>
    obtain ⟨-, -, hle, -, hiter⟩ : (s.predpDesc.dt = tagF16 ∧ s.prednDesc.dt = tagF16) ∧
        (s.dimsMatch 1 s.predpDesc ∧ s.dimsMatch 1 s.prednDesc) ∧ s.elems ≤ s.hw.eMax ∧
        s.ivalid = true ∧ s.iter.toNat < s.iterCount := by
      simpa [commandChecks, stepChecks] using hpass
    obtain ⟨m, hspec, hm⟩ := guidedStep_stepsElem hlat hle hiter
    obtain rfl := Option.some.inj (h.symm.trans hspec)
    exact .inr ⟨_, hm⟩
  | vscale =>
    obtain ⟨m, hspec, -⟩ := exec_vscale_of_le (hs.bufs .out).1 (by simpa [commandChecks] using hpass)
    exact .inl (Host.Outcome.next.inj (hexec.symm.trans hspec) ▸ rfl)
  | sigma | delta =>
    obtain ⟨v, -, rfl⟩ := Option.map_eq_some_iff.1 h
    exact .inl rfl
  | tstep =>
    obtain ⟨d, -, rfl⟩ := Option.map_eq_some_iff.1 h
    exact .inl (State.setTimestep_lat d s)

/-- A command other than `DUP` leaves `LAT` or writes the elements of its slot 0. -/
theorem exec_lat_of_ne_dup {i : Instr} {s t : State} (hs : s.MemoryOk) (hi : i ≠ .dup) (h : exec i s = .next t) :
    t.lat = s.lat ∨ ∃ v, s.lat.HalvesWritten 0 v s.elems t.lat := by
  rw [exec_eq_guarded, guarded_next] at h
  obtain ⟨f, -, rfl⟩ | ⟨hpass, hbody⟩ := h
  · exact .inl rfl
  · exact commandBody_lat_of_ne_dup hs hi (firstFault_eq_none.1 hpass) hbody

theorem outsideHalves_of_ge {e a : Nat} (h : elemAddr 2 e ≤ a) : outsideHalves 0 e a := by
  intro k hk
  simp only [elemAddr] at h ⊢
  omega

/-- Settles O44: the bodies keep a difference in slot 1 apart, and what is written to `LAT` goes to slot 0. -/
theorem latSlotOneIsReadByNoCommand : Obligations.LatSlotOneIsReadByNoCommand := by
  refine ⟨fun i s t t' other hs hother hzero ht ht' => ?_, fun i s t hs hi h a ha => ?_⟩
  · have happart : SameButSlotOne s.elems s (s.setBuf .lat other) := ⟨rfl, (hs.bufs .lat).1, hother, rfl, hzero⟩
    obtain ⟨-, -, -, hrest, hbytes⟩ := exec_sameButSlotOne happart ht ht'
    exact ⟨hrest, hbytes⟩
  · obtain hsame | ⟨v, hwritten⟩ := exec_lat_of_ne_dup hs hi h
    · rw [hsame]
    · exact hwritten.kept a (outsideHalves_of_ge ha)

end Sys2Proof.Machine
end

section
/-! The control commands (R250 to R253). `NOP` and `CLRF` by their own rules; the sequencing state of every command from
its checks, which never raise the code 0, and its body, whose loops write buffers only. -/

namespace Sys2Proof.Machine

open Sys2Proof

/-! A step on a command word in the faulted state (R281), and the commands without checks. -/

theorem step_of_faulted {s : State} {w : Word} {rest : List Input} (hf : s.fault ≠ .noFault)
    (hin : s.inputs = commandInput w :: rest) :
    step s = .next (if w = clrfWord then (s.popInput rest).clearFault else s.popInput rest) := by
  have hpop : (s.popInput rest).fault ≠ .noFault := hf
  rw [step_of_commandInput hin, hostCommand, if_pos hpop]
  split_ifs <;> rfl

theorem exec_nop (s : State) : exec .nop s = .next s := by
  rw [exec_eq_guarded, guarded_pass (by simp [commandChecks]), commandBody, finish]

theorem exec_clrf (s : State) : exec .clrf s = .next s.clearFault := by
  rw [exec_eq_guarded, guarded_pass (by simp [commandChecks]), commandBody, finish]

/-- Settles O16: unfaulted the word decodes to `NOP`; faulted it is not `CLRF`'s. -/
theorem nopWritesNothing : Obligations.NopWritesNothing := by
  refine ⟨soleWord_of_opcodesZ (by decide) rfl rfl, exec_nop, fun s rest hin => ?_⟩
  by_cases hf : s.fault = .noFault
  · rw [step_of_decode hf hin (i := .nop) rfl, exec_nop]
    rfl
  · rw [step_of_faulted hf hin, if_neg (by decide)]
    rfl

/-- Settles O18: `CLRF`'s word decodes to it when unfaulted, and is the one word that acts when faulted. -/
theorem clrfClearsTheFaultRecord : Obligations.ClrfClearsTheFaultRecord := by
  refine ⟨soleWord_of_opcodesZ (by decide) rfl rfl, exec_clrf, fun s w rest hin => ⟨?clears, fun hw hf => ?ignored⟩⟩
  case clears =>
    rintro rfl
    by_cases hf : s.fault = .noFault
    · rw [step_of_decode hf hin (i := .clrf) rfl, exec_clrf]
      rfl
    · rw [step_of_faulted hf hin, if_pos (c := (0x00000002 : Word) = clrfWord) rfl]
      rfl
  case ignored =>
    rw [step_of_faulted hf hin, if_neg (c := w = clrfWord) hw]
    rfl

/-! What each check raises when it fails (R231, R262, R269). -/

section
variable {s : State} {f : FaultCode} {i : Nat}

@[simp] theorem checkTag_eq_some {dt : Tag} : checkTag dt = some f ↔ dt ≠ tagF16 ∧ .unsupportedDType = f := by
  simp [checkTag]

@[simp] theorem checkPredDtypeC_eq_some :
    checkPredDtypeC s = some f ↔ s.predDesc.dt ≠ tagF16 ∧ .unsupportedDType = f := checkTag_eq_some

@[simp] theorem checkPredDtypeS_eq_some : checkPredDtypeS s = some f ↔
    ¬ (s.predpDesc.dt = tagF16 ∧ s.prednDesc.dt = tagF16) ∧ .unsupportedDType = f := by
  simp [checkPredDtypeS]

@[simp] theorem checkPredShapeC_eq_some :
    checkPredShapeC s = some f ↔ ¬ s.dimsMatch 2 s.predDesc ∧ .shapeMismatch = f := by
  simp [checkPredShapeC]

@[simp] theorem checkPredShapeS_eq_some : checkPredShapeS s = some f ↔
    ¬ (s.dimsMatch 1 s.predpDesc ∧ s.dimsMatch 1 s.prednDesc) ∧ .shapeMismatch = f := by
  simp [checkPredShapeS]

@[simp] theorem checkElems_eq_some : checkElems s = some f ↔ s.hw.eMax < s.elems ∧ .shapeMismatch = f := by
  simp [checkElems]

@[simp] theorem checkIterDefined_eq_some :
    checkIterDefined s = some f ↔ s.ivalid = false ∧ .scheduleExhausted = f := by
  simp [checkIterDefined]

@[simp] theorem checkSigma_eq_some : checkSigma i s = some f ↔ s.iterCount < i ∧ .scheduleExhausted = f := by
  simp [checkSigma]

@[simp] theorem checkDelta_eq_some : checkDelta i s = some f ↔ s.iterCount ≤ i ∧ .scheduleExhausted = f := by
  simp only [checkDelta, State.belowN_iff, ← not_lt]
  split_ifs <;> simp_all

@[simp] theorem checkTimestep_eq_some : checkTimestep i s = some f ↔ s.iterCount ≤ i ∧ .scheduleExhausted = f :=
  checkDelta_eq_some

/-- No check raises the code of the unfaulted state. -/
theorem commandChecks_ne_noFault (i : Instr) (s : State) : ∀ c ∈ commandChecks i s, c ≠ some .noFault := by
  cases i <;> simp [commandChecks, stepChecks]

end

/-- What a command can do: fault entry with a code other than 0, or its body behind checks that all pass (R266, R267). -/
theorem exec_raises_or_completes {i : Instr} {s t : State} (h : exec i s = .next t) :
    (∃ f, f ≠ .noFault ∧ t = s.raise f (encode i)) ∨
      ((∀ c ∈ commandChecks i s, c = none) ∧ commandBody i s = some t) := by
  rw [exec_eq_guarded, guarded_next] at h
  obtain ⟨f, hf, ht⟩ | ⟨hpass, hbody⟩ := h
  · exact .inl ⟨f, fun h0 => commandChecks_ne_noFault i s _ (firstFault_mem hf) (congrArg some h0), ht⟩
  · exact .inr ⟨firstFault_eq_none.1 hpass, hbody⟩

/-! Computations that keep what is read of a state. -/

/-- What `r` reads is the same after `f` as before. -/
def Keeps {α : Type} (r : State → α) (f : State → Option State) : Prop := ∀ s t, f s = some t → r t = r s

section
variable {α : Type} {r : State → α}

namespace Keeps

/-- A value is read, and a computation chosen by it. -/
theorem bind {β : Type} {v : State → Option β} {g : β → State → Option State} (hg : ∀ x, Keeps r (g x)) :
    Keeps r fun s => (v s).bind fun x => g x s := by
  intro s t h
  obtain ⟨x, -, ht⟩ := Option.bind_eq_some_iff.1 h
  exact hg x s t ht

/-- One computation after another. -/
theorem andThen {f g : State → Option State} (hf : Keeps r f) (hg : Keeps r g) : Keeps r fun s => (f s).bind g := by
  intro s t h
  obtain ⟨u, hu, ht⟩ := Option.bind_eq_some_iff.1 h
  exact (hg u t ht).trans (hf s u hu)

theorem write16 {b : Buf} (hb : ∀ u m, r (u.setBuf b m) = r u) (i : Nat) (v : Half) :
    Keeps r fun s => s.write16 b i v := by
  intro s t h
  obtain ⟨-, rfl⟩ := State.write16_eq_some.1 h
  exact hb s _

theorem forElems {body : Nat → State → Option State} (hbody : ∀ k, Keeps r (body k)) (n k : Nat) :
    Keeps r (forElems body n k) := fun s _ h =>
  forElems_keeps (fun _ u => r u = r s) (fun j u v _ _ hu hv => (hbody j u v hv).trans hu) rfl h

end Keeps

/-! The element turns keep all that is read beside the buffer they write; those of `FILLN` also write the PRNG file. -/

theorem keeps_dupElem (hlat : ∀ u m, r (u.setBuf .lat m) = r u) (e k : Nat) : Keeps r (dupElem e k) :=
  .bind fun x => .write16 hlat (e + k) x

theorem keeps_prescElem (hlat : ∀ u m, r (u.setBuf .lat m) = r u) (s0 : Dword) (k : Nat) : Keeps r (prescElem s0 k) :=
  .bind fun x => .write16 hlat k (scaleHalf s0 x)

theorem keeps_stepcElem (hlat : ∀ u m, r (u.setBuf .lat m) = r u) (gscale delta : Dword) (e k : Nat) :
    Keeps r (stepcElem gscale delta e k) :=
  .bind fun p => .bind fun n => .bind fun x => .write16 hlat k (stepElem gscale delta x p n)

theorem keeps_stepsElem (hlat : ∀ u m, r (u.setBuf .lat m) = r u) (gscale delta : Dword) (k : Nat) :
    Keeps r (stepsElem gscale delta k) :=
  .bind fun p => .bind fun n => .bind fun x => .write16 hlat k (stepElem gscale delta x p n)

theorem keeps_sviewElem (hscr : ∀ u m, r (u.setBuf .scr m) = r u) (inv : Dword) (e k : Nat) :
    Keeps r (sviewElem inv e k) :=
  .bind fun x => .andThen (.write16 hscr k (scaleHalf inv x)) (.write16 hscr (e + k) (scaleHalf inv x))

theorem keeps_vscaleElem (hout : ∀ u m, r (u.setBuf .out m) = r u) (scale : Dword) (k : Nat) :
    Keeps r (vscaleElem scale k) :=
  .bind fun x => .write16 hout k (vaeElem scale x)

theorem keeps_fillElem (hlat : ∀ u m, r (u.setBuf .lat m) = r u) (hprng : ∀ u p, r (u.setPrng p) = r u) (k : Nat) :
    Keeps r (fillElem k) := fun s t h =>
  (Keeps.write16 hlat k _ _ t h).trans ((hprng s.afterDraw _).trans (hprng s _))

end

/-! The sequencing state (R253). -/

/-- `IVALID`, `ITER`, `FAULT` and `FCMD` (R33, R35, R36). -/
structure Sequencing where
  ivalid : Bool
  iter : BitVec 16
  fault : FaultCode
  fcmd : Word

def State.sequencing (s : State) : Sequencing := ⟨s.ivalid, s.iter, s.fault, s.fcmd⟩

/-- R253's table: what a command that completes makes of the sequencing state. -/
def Sequencing.after (i : Instr) (q : Sequencing) : Sequencing :=
  match i with
  | .presc => { q with ivalid := true, iter := 0 }
  | .stepc | .steps => { q with iter := q.iter + 1 }
  | .abort => { q with ivalid := false, iter := 0 }
  | .clrf => { q with fault := .noFault, fcmd := 0 }
  | _ => q

theorem Sequencing.after_fault {q : Sequencing} (h : q.fault = .noFault) (i : Instr) :
    (q.after i).fault = .noFault := by
  cases i with
  | clrf => rfl
  | _ => exact h

theorem State.setBuf_sequencing (b : Buf) (s : State) (m : Memory) : (s.setBuf b m).sequencing = s.sequencing := by
  cases b <;> rfl

theorem State.setTimestep_sequencing (d : Dword) (s : State) : (s.setTimestep d).sequencing = s.sequencing := by
  unfold State.setTimestep
  cases roundAway d <;> rfl

/-- A guided step whose turns keep the sequencing state counts one iteration. -/
theorem guidedStep_sequencing {elem : Dword → Nat → State → Option State} {s t : State}
    (helem : ∀ delta k, Keeps State.sequencing (elem delta k)) (h : guidedStep elem s = some t) :
    t.sequencing = { s.sequencing with iter := s.iter + 1 } := by
  obtain ⟨delta, -, h⟩ := Option.bind_eq_some_iff.1 h
  obtain ⟨u, hu, rfl⟩ := Option.map_eq_some_iff.1 h
  have hloop : u.sequencing = s.sequencing := Keeps.forElems (helem delta) _ _ s u hu
  exact congrArg (fun q => { q with iter := q.iter + 1 }) hloop

/-- Every body changes the sequencing state as R253's table says. -/
theorem commandBody_sequencing {i : Instr} {s t : State} (h : commandBody i s = some t) :
    t.sequencing = s.sequencing.after i := by
  have hbuf := State.setBuf_sequencing
  cases i with
  | nop | abort | clrf | enc | dec | seed | next => exact Option.some.inj h ▸ rfl
  | filln => exact Keeps.forElems (keeps_fillElem (hbuf .lat) fun _ _ => rfl) _ _ s.seedPrng t h
  | dup => exact Keeps.forElems (keeps_dupElem (hbuf .lat) s.elems) _ _ s t h
  | presc =>
    rw [commandBody] at h
    obtain ⟨s0, -, h⟩ := Option.bind_eq_some_iff.1 h
    obtain ⟨u, hu, rfl⟩ := Option.map_eq_some_iff.1 h
    have hloop : u.sequencing = s.sequencing := Keeps.forElems (keeps_prescElem (hbuf .lat) s0) _ _ s u hu
    exact congrArg (Sequencing.after .presc) hloop
  | sview =>
    obtain ⟨sg, -, h⟩ := Option.bind_eq_some_iff.1 h
    exact Keeps.forElems (keeps_sviewElem (hbuf .scr) (viewFactor sg) s.elems) _ _ s t h
  | stepc => exact guidedStep_sequencing (fun delta => keeps_stepcElem (hbuf .lat) s.gscale delta s.elems) h
  | steps => exact guidedStep_sequencing (fun delta => keeps_stepsElem (hbuf .lat) s.gscale delta) h
  | vscale => exact Keeps.forElems (keeps_vscaleElem (hbuf .out) s.vaescale) _ _ s t h
  | sigma | delta =>
    obtain ⟨v, -, rfl⟩ := Option.map_eq_some_iff.1 h
    rfl
  | tstep =>
    obtain ⟨d, -, rfl⟩ := Option.map_eq_some_iff.1 h
    exact State.setTimestep_sequencing d s

/-- A command that leaves the block unfaulted has passed its checks and run its body. -/
theorem exec_completes {i : Instr} {s t : State} (h : exec i s = .next t) (ht : t.fault = .noFault) :
    (∀ c ∈ commandChecks i s, c = none) ∧ commandBody i s = some t := by
  obtain ⟨f, hf, rfl⟩ | hcompletes := exec_raises_or_completes h
  · exact absurd ht hf
  · exact hcompletes

/-- A command that leaves the block faulted has entered the fault with its own word. -/
theorem exec_raises {i : Instr} {s t : State} (hs : s.fault = .noFault) (h : exec i s = .next t)
    (ht : t.fault ≠ .noFault) : ∃ f, t = s.raise f (encode i) := by
  obtain ⟨f, -, hraise⟩ | ⟨-, hbody⟩ := exec_raises_or_completes h
  · exact ⟨f, hraise⟩
  · have hfault := congrArg Sequencing.fault (commandBody_sequencing hbody)
    exact absurd (hfault.trans (Sequencing.after_fault hs i)) ht

/-- A step command's checks leave `ITER` defined and below `N`. -/
theorem iter_of_stepChecks {s : State} (h : ∀ c ∈ stepChecks s, c = none) :
    s.ivalid = true ∧ s.iter.toNat < s.iterCount := by
  obtain ⟨-, hdef, hiter⟩ : s.elems ≤ s.hw.eMax ∧ s.ivalid = true ∧ s.iter.toNat < s.iterCount := by
    simpa [stepChecks] using h
  exact ⟨hdef, hiter⟩

/-- Settles O13: a command that completes changes the sequencing state by the table, and the checks of a step command
keep `ITER` from wrapping; any other outcome is fault entry. -/
theorem sequencingStateTable : Obligations.SequencingStateTable := by
  refine ⟨fun i s t _ h ht => ?completes, fun i s t hs h ht => ?raises, fun s => ⟨_, exec_clrf s, rfl, rfl⟩⟩
  case completes =>
    obtain ⟨hpass, hbody⟩ := exec_completes h ht
    obtain ⟨hivalid, hiter, -, hfcmd⟩ := Sequencing.mk.inj (commandBody_sequencing hbody)
    cases i with
    | stepc | steps =>
      obtain ⟨hdef, hlt⟩ := iter_of_stepChecks (List.forall_mem_cons.1 (List.forall_mem_cons.1 hpass).2).2
      exact ⟨hiter ▸ iter_add_one_toNat hlt, hdef, hivalid.trans hdef, hfcmd⟩
    | _ => exact ⟨hiter, hivalid, hfcmd⟩
  case raises =>
    obtain ⟨f, rfl⟩ := exec_raises hs h ht
    exact ⟨rfl, rfl, rfl⟩

end Sys2Proof.Machine
end

section
/-! The faults (R260 to R271). The code that a command raises is that of its first failing check, so that "exactly when"
is read off the list of its checks in their order (R269). -/

namespace Sys2Proof.Machine

open Sys2Proof

/-! The fault of a command. -/

/-- A check raises the fault, or it passes and a later one does (R269). -/
theorem firstFault_cons_eq_some {c : Option FaultCode} {l : List (Option FaultCode)} {f : FaultCode} :
    firstFault (c :: l) = some f ↔ c = some f ∨ (c = none ∧ firstFault l = some f) := by
  cases c <;> simp

/-- A check that raises the fault asked for: it fails, or a later one raises the same. -/
theorem firstFault_ite_eq_some {p : Prop} [Decidable p] {l : List (Option FaultCode)} {f : FaultCode} :
    firstFault ((if p then none else some f) :: l) = some f ↔ ¬ p ∨ firstFault l = some f := by
  by_cases hp : p <;> simp [hp]

theorem firstFault_stepChecks_eq_shapeMismatch {s : State} :
    firstFault (stepChecks s) = some .shapeMismatch ↔ s.hw.eMax < s.elems := by
  simp [stepChecks, firstFault_cons_eq_some]

/-- A command ends in a fault exactly when its first failing check raises that fault. -/
theorem exec_fault_iff {i : Instr} {s t : State} {f : FaultCode} (hs : s.fault = .noFault) (h : exec i s = .next t)
    (hf : f ≠ .noFault) : t.fault = f ↔ firstFault (commandChecks i s) = some f := by
  rw [exec_eq_guarded, guarded_next] at h
  obtain ⟨g, hg, rfl⟩ | ⟨hpass, hbody⟩ := h
  · rw [hg, State.raise_fault, Option.some_inj]
  · have hfault : t.fault = .noFault :=
      (congrArg Sequencing.fault (commandBody_sequencing hbody)).trans (Sequencing.after_fault hs i)
    rw [hpass, hfault]
    exact iff_of_false hf.symm nofun

/-- Fault entry with the code that the next state records is all that a faulting command does (R266, R267). -/
theorem exec_eq_raise {i : Instr} {s t : State} (hs : s.fault = .noFault) (h : exec i s = .next t)
    (ht : t.fault ≠ .noFault) : t = s.raise t.fault (encode i) := by
  obtain ⟨f, rfl⟩ := exec_raises hs h ht
  rfl

theorem exec_fcmd_of_fault {i : Instr} {s t : State} {f : FaultCode} (hs : s.fault = .noFault) (h : exec i s = .next t)
    (hf : f ≠ .noFault) (ht : t.fault = f) : t.fcmd = encode i := by
  rw [exec_eq_raise hs h (ht ▸ hf), State.raise_fcmd]

/-- Settles O8: fault entry, written out. -/
theorem faultsArePrecise : Obligations.FaultsArePrecise := fun _ _ _ hs h ht => exec_eq_raise hs h ht

/-- Settles O9: the dtype checks come before the shape checks, and no other check raises the code. -/
theorem shapeMismatchExactlyWhen : Obligations.ShapeMismatchExactlyWhen := by
  intro i s t hs h tooLarge dims
  have hdims (batch : Word) (d : TensorDesc) : dims batch d ↔ s.dimsMatch batch d := dimsMatch_iff.symm
  have hlarge : tooLarge ↔ s.hw.eMax < s.elems := Iff.rfl
  refine ⟨(exec_fault_iff hs h (by decide)).trans ?_, exec_fcmd_of_fault hs h (by decide)⟩
  cases i with
  | nop | abort | clrf | seed | next => simp [commandChecks]
  | enc | dec | sigma | delta | tstep => simp [commandChecks, firstFault_cons_eq_some]
  | filln | dup | presc | sview | vscale => simp [commandChecks, firstFault_cons_eq_some, hlarge]
  | stepc =>
    rw [commandChecks, firstFault_cons_eq_some, checkPredShapeC, firstFault_ite_eq_some,
      firstFault_stepChecks_eq_shapeMismatch]
    simp [hdims, hlarge, tagF16]
  | steps =>
    rw [commandChecks, firstFault_cons_eq_some, checkPredShapeS, firstFault_ite_eq_some,
      firstFault_stepChecks_eq_shapeMismatch, not_and_or, or_assoc]
    simp [hdims, hlarge, tagF16, and_assoc]

/-- Settles O10: `ENC` and `DEC` check their own tag, the step commands first of all those of their descriptors. -/
theorem unsupportedDTypeExactlyWhen : Obligations.UnsupportedDTypeExactlyWhen := by
  intro i s t hs h
  refine ⟨(exec_fault_iff hs h (by decide)).trans ?_, fun hf => ?_⟩
  · cases i with
    | nop | abort | clrf | seed | next => simp [commandChecks]
    | filln | dup | presc | sview | vscale | sigma | delta | tstep =>
      simp [commandChecks, firstFault_cons_eq_some]
    | enc | dec => simp [commandChecks, firstFault_cons_eq_some, tagF16]
    | stepc => simp [commandChecks, stepChecks, firstFault_cons_eq_some, tagF16]
    | steps => simp [commandChecks, stepChecks, firstFault_cons_eq_some, tagF16, imp_iff_not_or]
  · rw [exec_eq_raise hs h (hf ▸ by decide)]
    exact ⟨rfl, rfl, rfl, rfl⟩

/-- Settles O11: the schedule checks come last (R269), and index 0 of `PRESC` is never beyond `N`. -/
theorem scheduleExhaustedExactlyWhen : Obligations.ScheduleExhaustedExactlyWhen := by
  intro i s t hs h n fits dims
  have hdims (batch : Word) (d : TensorDesc) : dims batch d ↔ s.dimsMatch batch d := dimsMatch_iff.symm
  have hfits : fits ↔ s.elems ≤ s.hw.eMax := Iff.rfl
  have hn : n = s.iterCount := rfl
  refine ⟨(exec_fault_iff hs h (by decide)).trans ?_, exec_fcmd_of_fault hs h (by decide)⟩
  cases i with
  | nop | abort | clrf | seed | next => simp [commandChecks]
  | enc | dec | filln | dup | presc | vscale => simp [commandChecks, firstFault_cons_eq_some]
  | sigma | delta | tstep => simp [commandChecks, firstFault_cons_eq_some, hn]
  | sview => simp [commandChecks, firstFault_cons_eq_some, hn, hfits, or_and_left]
  | stepc =>
    simp [commandChecks, stepChecks, firstFault_cons_eq_some, hfits, hdims, hn, tagF16, or_and_left]
  | steps =>
    simp [commandChecks, stepChecks, firstFault_cons_eq_some, hfits, hdims, hn, tagF16, or_and_left, and_assoc]

end Sys2Proof.Machine
end

section
/-! The dispatch of a command word (R281), and what a step can do in the faulted state: said once of every input, whose
outcome is a command's, a refusal, the reset event or a host access. -/

namespace Sys2Proof.Machine

open Sys2Proof

/-- Settles O6: the four branches of the dispatch. -/
theorem dispatchOfACommandWord : Obligations.DispatchOfACommandWord := by
  refine fun s w rest hin => ⟨fun hf hw => ?clears, fun hf hw => ?ignored, fun hf hw => ?illegal, fun hf i hi => ?legal⟩
  case clears =>
    rw [step_of_faulted hf hin, if_pos (c := w = clrfWord) hw]
    rfl
  case ignored =>
    rw [step_of_faulted hf hin, if_neg (c := w = clrfWord) hw]
    rfl
  case illegal => exact step_of_illegalWord hf hin hw
  case legal => exact step_of_decode hf hin hi

theorem step_of_no_inputs {s : State} (h : s.inputs = []) : step s = .next s := by
  rw [step, h]

theorem State.writeElem_fault (m : MemName) (i : Nat) (v : Dword) (s : State) :
    (s.writeElem m i v).fault = s.fault := by
  cases m <;> simp [State.writeElem]

theorem State.writeElem_fcmd (m : MemName) (i : Nat) (v : Dword) (s : State) :
    (s.writeElem m i v).fcmd = s.fcmd := by
  cases m <;> simp [State.writeElem]

/-- What an input can do in `s` (R60, R77, R290): run the dispatch of a command word, be refused, reset the block, or be
a host access, which leaves the fault record. -/
inductive InputOutcome (s : State) : Host.Outcome State Fault Refusal → Prop
  | command (w : Word) : InputOutcome s (hostCommand w s)
  | refused (r : Refusal) : InputOutcome s (.refused r)
  | reset : InputOutcome s (.next s.doReset)
  | access {t : State} (hfault : t.fault = s.fault) (hfcmd : t.fcmd = s.fcmd) : InputOutcome s (.next t)

theorem takeInput_outcome (x : Input) (s : State) : InputOutcome s (takeInput x s) := by
  cases x with
  | writeReg no v =>
    rw [takeInput, hostWriteReg]
    cases regOfNumber no with
    | none => exact .refused _
    | some r =>
      dsimp only
      split_ifs
      exacts [.refused _, .refused _, .command _, .access (State.writeReg_fault ..) (State.writeReg_fcmd ..)]
  | readReg no =>
    rw [takeInput, hostReadReg]
    cases regOfNumber no with
    | none => exact .refused _
    | some r =>
      dsimp only
      split_ifs
      exacts [.refused _, .access rfl rfl]
  | writeBuf m i v =>
    rw [takeInput, hostWriteBuf]
    split_ifs
    exacts [.refused _, .refused _, .refused _, .access (State.writeElem_fault ..) (State.writeElem_fcmd ..)]
  | readBuf m i =>
    rw [takeInput, hostReadBuf]
    split_ifs
    exacts [.refused _, .access rfl rfl]
  | reset => exact .reset

/-- In the faulted state a command word leaves the fault record or clears it (R268). -/
theorem hostCommand_of_faulted {s t : State} {w : Word} (hf : s.fault ≠ .noFault) (h : hostCommand w s = .next t) :
    t = s ∨ t = s.clearFault := by
  rw [hostCommand, if_pos hf] at h
  split_ifs at h
  · exact .inr (Host.Outcome.next.inj h).symm
  · exact .inl (Host.Outcome.next.inj h).symm

/-- Settles O7: a command word keeps the record or clears it, a reset clears it, a host access keeps it. -/
theorem faultsDoNotNest : Obligations.FaultsDoNotNest := by
  intro s t hf h
  cases hin : s.inputs with
  | nil =>
    rw [step_of_no_inputs hin] at h
    obtain rfl := Host.Outcome.next.inj h
    exact .inl ⟨rfl, rfl⟩
  | cons x rest =>
    rw [step_of_inputs hin] at h
    have houtcome := takeInput_outcome x (s.popInput rest)
    generalize takeInput x (s.popInput rest) = o at h houtcome
    cases houtcome with
    | command w =>
      obtain rfl | rfl := hostCommand_of_faulted (s := s.popInput rest) hf h
      · exact .inl ⟨rfl, rfl⟩
      · exact .inr ⟨rfl, rfl⟩
    | refused r => cases h
    | reset =>
      cases h
      exact .inr ⟨rfl, rfl⟩
    | access hfault hfcmd =>
      cases h
      exact .inl ⟨hfault, hfcmd⟩

end Sys2Proof.Machine
end

section
/-! No command makes an access out of range (R282): the loops complete turn by turn, since the turns keep the parameters
and the checks bound their indices. -/

namespace Sys2Proof.Machine

open Sys2Proof

/-! The indices: an element of slot 0 is in every buffer, one of slot 1 in a buffer of two slots, and an index that
passes its check in its schedule memory. -/

theorem lt_bufSize {h : Hardware} {e k : Nat} (hk : k < e) (he : e ≤ h.eMax) (b : Buf) : k < bufSize h b :=
  (hk.trans_le he).trans_le (eMax_le_bufSize h b)

theorem add_lt_bufSize {h : Hardware} {b : Buf} {e k : Nat} (hk : k < e) (he : e ≤ h.eMax)
    (hb : bufSize h b = 2 * h.eMax) : e + k < bufSize h b := by
  omega

theorem schedTimestep_of_lt {s : State} {i : Nat} (h : i < s.iterCount) : schedTimestep i s = some (s.dword .ts i) :=
  State.read64_of_lt (h.trans_le s.iterCount_le)

/-- A loop over elements that `E_MAX` bounds completes when its turns complete and keep the parameters. -/
theorem forElems_answers {body : Nat → State → Option State} {n : Nat} {s : State} (hn : n ≤ s.hw.eMax)
    (hkeeps : ∀ k, Keeps State.hw (body k)) (turn : ∀ k u, k < n → n ≤ u.hw.eMax → ∃ v, body k u = some v) :
    ∃ t, forElems body n 0 s = some t := by
  have turns : ∀ k u, 0 ≤ k → k < 0 + n → u.hw = s.hw → ∃ v, body k u = some v ∧ v.hw = s.hw := by
    intro k u _ hk hu
    obtain ⟨v, hv⟩ := turn k u (by omega) (hu ▸ hn)
    exact ⟨v, hv, (hkeeps k u v hv).trans hu⟩
  obtain ⟨t, ht, -⟩ := forElems_completes (fun _ u => u.hw = s.hw) turns rfl
  exact ⟨t, ht⟩

theorem guidedStep_answers {elem : Dword → Nat → State → Option State} {s : State}
    (hpass : ∀ c ∈ stepChecks s, c = none) (hkeeps : ∀ delta k, Keeps State.hw (elem delta k))
    (turn : ∀ delta k u, k < s.elems → s.elems ≤ u.hw.eMax → ∃ v, elem delta k u = some v) :
    ∃ t, guidedStep elem s = some t := by
  have hle : s.elems ≤ s.hw.eMax := checkElems_eq_none.1 (hpass _ (List.mem_cons_self ..))
  obtain ⟨-, hiter⟩ := iter_of_stepChecks hpass
  obtain ⟨t, ht⟩ := forElems_answers hle (hkeeps s.nextDelta) (turn s.nextDelta)
  exact ⟨_, by rw [guidedStep_of_lt hiter, ht, Option.map_some]⟩

/-- A body behind checks that pass answers: the checks bound every index that it reads or writes. -/
theorem commandBody_answers {i : Instr} {s : State} (hpass : ∀ c ∈ commandChecks i s, c = none) :
    ∃ t, commandBody i s = some t := by
  have hhw : ∀ b u m, (State.setBuf b m u).hw = u.hw := fun b u m => State.setBuf_hw u b m
  cases i with
  | nop | abort | clrf | enc | dec | seed | next => exact ⟨_, rfl⟩
  | filln =>
    have hle : s.elems ≤ s.hw.eMax := by simpa [commandChecks] using hpass
    exact forElems_answers (s := s.seedPrng) hle (keeps_fillElem (hhw .lat) fun _ _ => rfl) fun k u hk he =>
      ⟨_, State.write16_of_lt (s := u.afterDraw.afterDraw) (lt_bufSize hk he .lat)⟩
  | dup =>
    have hle : s.elems ≤ s.hw.eMax := by simpa [commandChecks] using hpass
    exact forElems_answers hle (keeps_dupElem (hhw .lat) s.elems) fun k u hk he =>
      ⟨_, dupElem_of_lt (lt_bufSize hk he .lat) (add_lt_bufSize hk he rfl)⟩
  | presc =>
    have hle : s.elems ≤ s.hw.eMax := by simpa [commandChecks] using hpass
    obtain ⟨t, ht⟩ := forElems_answers hle (keeps_prescElem (hhw .lat) (s.dword .sigma 0)) fun k u hk he =>
      ⟨_, prescElem_of_lt (lt_bufSize hk he .lat)⟩
    exact ⟨_, by rw [commandBody, schedSigma_of_le (Nat.zero_le _), Option.bind_some, ht, Option.map_some]⟩
  | sview =>
    obtain ⟨hle, -, hiter⟩ : s.elems ≤ s.hw.eMax ∧ s.ivalid = true ∧ s.iter.toNat ≤ s.iterCount := by
      simpa [commandChecks] using hpass
    rw [commandBody, schedSigma_of_le hiter, Option.bind_some]
    exact forElems_answers hle (keeps_sviewElem (hhw .scr) _ s.elems) fun k u hk he =>
      ⟨_, sviewElem_of_lt (lt_bufSize hk he .scr) (add_lt_bufSize hk he rfl)⟩
  | stepc =>
    obtain ⟨-, hpass⟩ := List.forall_mem_cons.1 hpass
    obtain ⟨-, hstep⟩ := List.forall_mem_cons.1 hpass
    exact guidedStep_answers hstep (fun delta => keeps_stepcElem (hhw .lat) s.gscale delta s.elems)
      fun delta k u hk he => ⟨_, stepcElem_of_lt (lt_bufSize hk he .lat) (add_lt_bufSize hk he rfl)⟩
  | steps =>
    obtain ⟨-, hpass⟩ := List.forall_mem_cons.1 hpass
    obtain ⟨-, hstep⟩ := List.forall_mem_cons.1 hpass
    exact guidedStep_answers hstep (fun delta => keeps_stepsElem (hhw .lat) s.gscale delta)
      fun delta k u hk he => ⟨_, stepsElem_of_lt (hk.trans_le he)⟩
  | vscale =>
    have hle : s.elems ≤ s.hw.eMax := by simpa [commandChecks] using hpass
    exact forElems_answers hle (keeps_vscaleElem (hhw .out) s.vaescale) fun k u hk he =>
      ⟨_, vscaleElem_of_lt (hk.trans_le he)⟩
  | sigma k =>
    have hk : k ≤ s.iterCount := by simpa [commandChecks] using hpass
    exact ⟨_, by rw [commandBody, schedSigma_of_le hk, Option.map_some]⟩
  | delta k =>
    have hk : k < s.iterCount := by simpa [commandChecks] using hpass
    exact ⟨_, by rw [commandBody, schedDelta_of_lt hk, Option.map_some]⟩
  | tstep k =>
    have hk : k < s.iterCount := by simpa [commandChecks] using hpass
    exact ⟨_, by rw [commandBody, schedTimestep_of_lt hk, Option.map_some]⟩

/-- Every command answers a next state: fault entry, or its body (R310). -/
theorem exec_answers (i : Instr) (s : State) : ∃ t, exec i s = .next t := by
  rw [exec_eq_guarded]
  cases hchecks : firstFault (commandChecks i s) with
  | some f => exact ⟨_, guarded_raises hchecks ..⟩
  | none =>
    obtain ⟨t, ht⟩ := commandBody_answers (firstFault_eq_none.1 hchecks)
    exact ⟨t, guarded_next.2 (.inr ⟨hchecks, ht⟩)⟩

theorem hostCommand_answers (w : Word) (s : State) : ∃ t, hostCommand w s = .next t := by
  unfold hostCommand
  split_ifs
  · exact ⟨_, rfl⟩
  · exact ⟨_, rfl⟩
  · cases decode w with
    | ok i => exact exec_answers i s
    | error e => exact ⟨_, rfl⟩

/-- Settles O12: a step idles or takes an input, and of the four things an input can do only a command could stop. -/
theorem noCommandAccessesOutOfRange : Obligations.NoCommandAccessesOutOfRange := by
  refine ⟨exec_answers, fun s f h => ?_⟩
  cases hin : s.inputs with
  | nil => exact nomatch (step_of_no_inputs hin).symm.trans h
  | cons x rest =>
    rw [step_of_inputs hin] at h
    have houtcome := takeInput_outcome x (s.popInput rest)
    generalize takeInput x (s.popInput rest) = o at h houtcome
    cases houtcome with
    | command w =>
      obtain ⟨t, ht⟩ := hostCommand_answers w (s.popInput rest)
      exact nomatch ht.symm.trans h
    | refused | reset | access => cases h

end Sys2Proof.Machine
end

section
/-! `RES` (R312). Fault entry leaves it alone, and so does every body but those of the six commands that share it: the
loops by their turns, which write a buffer or the PRNG file. -/

namespace Sys2Proof.Machine

open Sys2Proof

/-- The six commands that share `RES` (R312). -/
def WritesRes : Instr → Prop
  | .enc _ | .dec _ | .next | .sigma _ | .delta _ | .tstep _ => True
  | _ => False

namespace Keeps
variable {α : Type} {r : State → α}

/-- A computation, and an update of its result. -/
theorem map {f : State → Option State} {g : State → State} (hf : Keeps r f) (hg : ∀ u, r (g u) = r u) :
    Keeps r fun s => (f s).map g := by
  intro s t h
  obtain ⟨u, hu, rfl⟩ := Option.map_eq_some_iff.1 h
  exact (hg u).trans (hf s u hu)

theorem guidedStep {elem : Dword → Nat → State → Option State} (helem : ∀ delta k, Keeps r (elem delta k))
    (hrun : ∀ u v i, r (State.setRun v i u) = r u) : Keeps r (guidedStep elem) :=
  .bind fun delta => .map (fun s => Keeps.forElems (helem delta) s.elems 0 s) fun u => hrun u u.ivalid (u.iter + 1)

end Keeps

/-- A body that changes `RES` is that of one of the six commands. -/
theorem writesRes_of_commandBody {i : Instr} {s t : State} (h : commandBody i s = some t) (hres : t.res ≠ s.res) :
    WritesRes i := by
  have hbuf : ∀ b u m, (State.setBuf b m u).res = u.res := fun b u m => State.setBuf_res u b m
  have hrun : ∀ u v i, (State.setRun v i u).res = u.res := fun _ _ _ => rfl
  cases i with
  | enc | dec | next | sigma | delta | tstep => trivial
  | nop | abort | clrf | seed => exact absurd (Option.some.inj h ▸ rfl) hres
  | filln =>
    exact absurd (Keeps.forElems (keeps_fillElem (hbuf .lat) fun _ _ => rfl) _ _ s.seedPrng t h) hres
  | dup => exact absurd (Keeps.forElems (keeps_dupElem (hbuf .lat) s.elems) _ _ s t h) hres
  | presc =>
    rw [commandBody] at h
    obtain ⟨s0, -, h⟩ := Option.bind_eq_some_iff.1 h
    exact absurd (Keeps.map (.forElems (keeps_prescElem (hbuf .lat) s0) _ _) (hrun · true 0) s t h) hres
  | sview =>
    obtain ⟨sg, -, h⟩ := Option.bind_eq_some_iff.1 h
    exact absurd (Keeps.forElems (keeps_sviewElem (hbuf .scr) (viewFactor sg) s.elems) _ _ s t h) hres
  | stepc =>
    exact absurd (Keeps.guidedStep (fun d => keeps_stepcElem (hbuf .lat) s.gscale d s.elems) hrun s t h) hres
  | steps => exact absurd (Keeps.guidedStep (fun d => keeps_stepsElem (hbuf .lat) s.gscale d) hrun s t h) hres
  | vscale => exact absurd (Keeps.forElems (keeps_vscaleElem (hbuf .out) s.vaescale) _ _ s t h) hres

/-- Settles O15: fault entry keeps `RES`, so a command that changes it has run its body. -/
theorem resIsSharedBySixCommands : Obligations.ResIsSharedBySixCommands := by
  intro i s t hs h hres
  have hfault : t.fault = .noFault := by
    by_contra ht
    obtain ⟨f, rfl⟩ := exec_raises hs h ht
    exact hres (State.raise_res s f (encode i))
  have hwrites : WritesRes i := writesRes_of_commandBody (exec_completes h hfault).2 hres
  exact ⟨hfault, by cases i <;> exact hwrites⟩

end Sys2Proof.Machine
end

section
/-! The round trips of the command word (R90 to R98): packing and taking apart the fields, format by format, then the
decoder's table opcode by opcode. -/

namespace Sys2Proof

open Sys2Proof.Machine

/-! Decoding a packed word, by its format (R95). -/

theorem decodeZ_packWord (i : Instr) (op : BitVec 8) : decodeZ i (packWord op 0 0) = .ok i := by
  simp [decodeZ]

theorem decodeT_packWord (i : Tag → Instr) (op : BitVec 8) (dt : Tag) : decodeT i (packWord op dt 0) = .ok (i dt) := by
  simp [decodeT]

/-- An index that fits `imm16` comes back whole (R94). -/
theorem decodeI_packWord (i : Nat → Instr) (op : BitVec 8) {k : Nat} (hk : indexFits k = true) :
    decodeI i (packWord op 0 (BitVec.ofNat 16 k)) = .ok (i k) := by
  have hlt : k < 65536 := of_decide_eq_true hk
  simp [decodeI, Nat.mod_eq_of_lt hlt]

/-- Settles O1: the opcode selects the decoder of the command's own format, which gives the packed operand back. -/
theorem decodeInvertsEncode : Obligations.DecodeInvertsEncode := by
  intro i hwf
  have hop : opField (encode i) = i.opcode := opField_packWord ..
  unfold decode
  rw [hop]
  cases i with
  | nop | abort | clrf | seed | next | filln | dup | presc | sview | stepc | steps | vscale =>
    exact decodeZ_packWord _ _
  | enc dt | dec dt => exact decodeT_packWord _ _ dt
  | sigma k | delta k | tstep k => exact decodeI_packWord _ _ hwf

/-! A word that decodes, by its format. -/

/-- The word whose fields are those of a command is its word. -/
theorem encode_of_fields {i : Instr} {w : Word} (hop : opField w = i.opcode) (hzero : zeroField w = 0)
    (htag : tagField w = i.tagBits) (himm : immField w = i.immBits) : encode i = w := by
  rw [encode, ← hop, ← htag, ← himm, packWord_fields w hzero]

theorem encode_of_decodeZ {i j : Instr} {w : Word} (h : decodeZ j w = .ok i) (hop : opField w = j.opcode)
    (hj : j.format = .Z) : i.wellFormed = true ∧ encode i = w := by
  unfold decodeZ at h
  split_ifs at h with hzero htag himm
  obtain rfl := Except.ok.inj h
  obtain ⟨hwf, htag0, himm0⟩ : j.wellFormed = true ∧ j.tagBits = 0 ∧ j.immBits = 0 := by
    cases j with
    | enc | dec | sigma | delta | tstep => cases hj
    | _ => exact ⟨rfl, rfl, rfl⟩
  exact ⟨hwf, encode_of_fields hop (not_not.1 hzero) ((not_not.1 htag).trans htag0.symm)
    ((not_not.1 himm).trans himm0.symm)⟩

theorem encode_of_decodeT {i : Instr} {j : Tag → Instr} {w : Word} (h : decodeT j w = .ok i)
    (hop : opField w = (j (tagField w)).opcode) (hj : j = .enc ∨ j = .dec) : i.wellFormed = true ∧ encode i = w := by
  unfold decodeT at h
  split_ifs at h with hzero himm
  obtain rfl := Except.ok.inj h
  obtain rfl | rfl := hj <;> exact ⟨rfl, encode_of_fields hop (not_not.1 hzero) rfl (not_not.1 himm)⟩

theorem encode_of_decodeI {i : Instr} {j : Nat → Instr} {w : Word} (h : decodeI j w = .ok i)
    (hop : opField w = (j (immField w).toNat).opcode) (hj : j = .sigma ∨ j = .delta ∨ j = .tstep) :
    i.wellFormed = true ∧ encode i = w := by
  unfold decodeI at h
  split_ifs at h with hzero htag
  obtain rfl := Except.ok.inj h
  have hfits : indexFits (immField w).toNat = true := decide_eq_true (immField w).isLt
  have hindex : immField w = BitVec.ofNat 16 (immField w).toNat := by simp
  obtain rfl | rfl | rfl := hj <;> exact ⟨hfits, encode_of_fields hop (not_not.1 hzero) (not_not.1 htag) hindex⟩

/-- Settles O2: the row of the opcode map that accepted the word gives back each of its fields. -/
theorem encodeInvertsDecode : Obligations.EncodeInvertsDecode := by
  intro w i h
  unfold decode at h
  split at h
  case h_1 hop | h_2 hop | h_3 hop | h_6 hop | h_7 hop | h_8 hop | h_9 hop | h_10 hop | h_11 hop | h_12 hop | h_13 hop
      | h_14 hop =>
    exact encode_of_decodeZ h (BitVec.eq_of_toNat_eq hop) rfl
  case h_4 hop | h_5 hop => exact encode_of_decodeT h (BitVec.eq_of_toNat_eq hop) (by simp)
  case h_15 hop | h_16 hop | h_17 hop => exact encode_of_decodeI h (BitVec.eq_of_toNat_eq hop) (by simp)
  case h_18 => cases h

end Sys2Proof
end

section
/-! The host's accesses (R22, R34, R60, R65, R68): the register map row by row, the memories element by element, and the
fields of `STATUS`. -/

namespace Sys2Proof.Machine

open Sys2Proof

/-! Registers. -/

theorem step_writeReg {s : State} {no : Nat} {r : Reg} {v : Dword} {rest : List Input}
    (hin : s.inputs = .writeReg no v :: rest) (hr : regOfNumber no = some r) (ha : r.access = .rw)
    (hv : v.toNat < 2 ^ r.width) : step s = .next ((s.popInput rest).writeReg r v) := by
  rw [step_of_inputs hin, takeInput, hostWriteReg_of_rw hr ha hv]

theorem step_readReg {s : State} {no : Nat} {r : Reg} {rest : List Input} (hin : s.inputs = .readReg no :: rest)
    (hr : regOfNumber no = some r) (ha : r.access ≠ .w) :
    step s = .next { s with inputs := rest, reply := some (s.readReg r) } := by
  rw [step_of_inputs hin, takeInput, hostReadReg_of_readable hr ha, State.readReg_popInput]
  rfl

/-- Settles O57: each row of the two tables is a register of the map, whose own rules then answer. -/
theorem registerReadsBackWhatWasWritten : Obligations.RegisterReadsBackWhatWasWritten := by
  refine fun s no rest => ⟨fun width v t hrow hv hin => ?write, fun value hrow hin => ?read⟩
  case write =>
    obtain ⟨r, hr, ha, rfl, rfl⟩ := registerWrites_reg hrow
    refine ⟨step_writeReg hin hr ha hv, fun rest' hrest => ?_⟩
    have hnext : ((s.popInput rest).writeReg r v).inputs = .readReg no :: rest' :=
      (State.writeReg_inputs ..).trans hrest
    have hread := step_readReg hnext hr (by rw [ha]; decide)
    rwa [State.readReg_writeReg ha hv] at hread
  case read =>
    obtain ⟨r, hr, ha, rfl⟩ := registerReads_reg hrow
    exact step_readReg hin hr ha

/-! `STATUS` (R22, R35). -/

theorem bool_eq_of_toNat_eq : ∀ {a b : Bool}, a.toNat = b.toNat → a = b := by
  decide

/-- The fields of `STATUS` put together, as a number. -/
theorem State.statusWord_toNat (s : State) : s.statusWord.toNat =
    s.iter.toNat * 65536 + s.term.toNat * 32 + s.ivalid.toNat * 16 + s.fault.code.toNat := by
  simp only [State.statusWord, append_toNat, BitVec.toNat_ofBool]
  simp
  omega

/-- A field of `STATUS` is what division and remainder cut out of its number. -/
theorem State.extract_statusWord (s : State) (start len : Nat) : (s.statusWord.extractLsb' start len).toNat =
    (s.iter.toNat * 65536 + s.term.toNat * 32 + s.ivalid.toNat * 16 + s.fault.code.toNat) / 2 ^ start % 2 ^ len := by
  rw [BitVec.extractLsb'_toNat, State.statusWord_toNat, Nat.shiftRight_eq_div_pow]

theorem State.statusWord_bit (s : State) (k : Nat) : (s.statusWord.getLsbD k).toNat =
    (s.iter.toNat * 65536 + s.term.toNat * 32 + s.ivalid.toNat * 16 + s.fault.code.toNat) / 2 ^ k % 2 := by
  rw [BitVec.getLsbD, Nat.toNat_testBit, State.statusWord_toNat]

section
variable (s : State)

theorem State.statusWord_fault : s.statusWord.extractLsb' 0 4 = s.fault.code := by
  have hcode := s.fault.code.isLt
  refine BitVec.eq_of_toNat_eq ((s.extract_statusWord 0 4).trans ?_)
  omega

theorem State.statusWord_ivalid : s.statusWord.getLsbD 4 = s.ivalid := by
  have hcode := s.fault.code.isLt
  have hivalid := s.ivalid.toNat_le
  refine bool_eq_of_toNat_eq ((s.statusWord_bit 4).trans ?_)
  omega

theorem State.statusWord_term : s.statusWord.getLsbD 5 = s.term := by
  have hcode := s.fault.code.isLt
  have hivalid := s.ivalid.toNat_le
  have hterm := s.term.toNat_le
  refine bool_eq_of_toNat_eq ((s.statusWord_bit 5).trans ?_)
  omega

theorem State.statusWord_zeros : s.statusWord.extractLsb' 6 10 = 0 := by
  have hcode := s.fault.code.isLt
  have hivalid := s.ivalid.toNat_le
  have hterm := s.term.toNat_le
  refine BitVec.eq_of_toNat_eq ((s.extract_statusWord 6 10).trans ?_)
  rw [show (0 : BitVec 10).toNat = 0 from rfl]
  omega

theorem State.statusWord_iter : s.statusWord.extractLsb' 16 16 = s.iter := by
  have hcode := s.fault.code.isLt
  have hivalid := s.ivalid.toNat_le
  have hterm := s.term.toNat_le
  have hiter := s.iter.isLt
  refine BitVec.eq_of_toNat_eq ((s.extract_statusWord 16 16).trans ?_)
  omega

end

theorem State.term_eq_true_iff {s : State} : s.term = true ↔ s.ivalid = true ∧ s.iterCount ≤ s.iter.toNat := by
  rw [State.term, Bool.and_eq_true, decide_eq_true_iff]

/-- Settles O60: the word is the sum of its shifted fields, and the read is a register's. -/
theorem statusWordFields : Obligations.StatusWordFields := by
  refine fun s => ⟨?fault, s.statusWord_ivalid, ?term, s.statusWord_zeros, s.statusWord_iter,
    fun rest hin => step_readReg (r := .status) hin rfl (by decide)⟩
  case fault =>
    rw [s.statusWord_fault]
    cases s.fault <;> rfl
  case term => rw [s.statusWord_term, State.term_eq_true_iff, State.iterCount]

/-! Memories. -/

theorem step_readBuf {s : State} {m : MemName} {i : Nat} {rest : List Input} (hin : s.inputs = .readBuf m i :: rest)
    (hi : i < elementCount s.hw m) : step s = .next { s with inputs := rest, reply := some (elementOf s m i) } := by
  have hsize : ¬ memSize (s.popInput rest).hw m ≤ i := by simpa using hi
  rw [step_of_inputs hin, takeInput, hostReadBuf, if_neg hsize, ← elementOf_eq_readElem, elementOf_popInput]
  rfl

theorem step_writeBuf {s : State} {m : MemName} {i : Nat} {v : Dword} {rest : List Input}
    (hin : s.inputs = .writeBuf m i v :: rest) (hi : i < elementCount s.hw m) (hm : memWritable m = true)
    (hv : v.toNat < 2 ^ memWidth m) : step s = .next ((s.popInput rest).writeElem m i v) := by
  have hsize : ¬ memSize (s.popInput rest).hw m ≤ i := by simpa using hi
  have hfits : ¬ fits (memWidth m) v = false := by simpa [fits] using hv
  rw [step_of_inputs hin, takeInput, hostWriteBuf, if_neg (by simp [hm]), if_neg hsize, if_neg hfits]

theorem State.MemoryOk.popInput {s : State} (hs : s.MemoryOk) (rest : List Input) : (s.popInput rest).MemoryOk :=
  ⟨fun b => by simpa using hs.bufs b, fun t => by simpa using hs.scheds t⟩

/-- Settles O58: an access inside the memory by its rule; the element written by the memory's read-after-write law. -/
theorem memoryReadsBackWhatWasWritten : Obligations.MemoryReadsBackWhatWasWritten := by
  refine fun s m i rest hi => ⟨fun hin => step_readBuf hin hi, fun v hs hv hin => ?_⟩
  obtain ⟨hwritable, hwidth⟩ : memWritable m = true ∧ v.toNat < 2 ^ memWidth m := by
    rcases m with b | t
    · cases b with
      | scr | out => exact hv.elim
      | lat | pred | predp | predn => exact ⟨rfl, hv⟩
    · exact ⟨rfl, v.isLt⟩
  have hafter (m' : MemName) (j : Nat) : elementOf ((s.popInput rest).writeElem m i v) m' j =
      if (m', j) = (m, i) then v else elementOf s m' j := by
    rw [elementOf_eq_readElem, State.readElem_writeElem m' j (hs.popInput rest) hwidth, ← elementOf_eq_readElem,
      elementOf_popInput]
  have hself : elementOf ((s.popInput rest).writeElem m i v) m i = v := (hafter m i).trans (if_pos rfl)
  refine ⟨_, step_writeBuf hin hi hwritable hwidth, State.writeElem_sameButMemory .., hself,
    fun m' j hne => (hafter m' j).trans (if_neg hne), fun rest' hrest => ?_⟩
  have hnext : ((s.popInput rest).writeElem m i v).inputs = .readBuf m i :: rest' :=
    (State.writeElem_inputs ..).trans hrest
  rw [step_readBuf hnext (by simpa using hi), hself]

end Sys2Proof.Machine
end

section
/-! `ABORT` (R251) and `TSTEP` (R206). -/

namespace Sys2Proof.Machine

open Sys2Proof

/-! `ABORT` (R251). -/

theorem exec_abort (s : State) : exec .abort s = .next (s.setRun false 0) := by
  rw [exec_eq_guarded, guarded_pass (by simp [commandChecks]), commandBody, finish]

/-- Without an iteration `SVIEW` faults, if its elements fit (R219, R253). -/
theorem exec_sview_of_undefined {s : State} (hle : s.elems ≤ s.hw.eMax) (hiter : s.ivalid = false) :
    exec .sview s = .next (s.raise .scheduleExhausted (encode .sview)) := by
  have hchecks : firstFault (commandChecks .sview s) = some .scheduleExhausted := by
    rw [commandChecks, checkElems_eq_none.2 hle, firstFault_none, checkIterDefined_eq_some.2 ⟨hiter, rfl⟩,
      firstFault_some]
  rw [exec_eq_guarded, guarded_raises hchecks]

/-- Settles O17: the run is cleared, so `TERM` is 0 and `SVIEW`'s second check fails. -/
theorem abortClearsTheRun : Obligations.AbortClearsTheRun := by
  refine ⟨soleWord_of_opcodesZ (by decide) rfl rfl, exec_abort, fun s t h => ?after, fun s rest hf hin => ?faulted⟩
  case after =>
    obtain rfl := Host.Outcome.next.inj ((exec_abort s).symm.trans h)
    exact ⟨rfl, fun hle => exec_sview_of_undefined hle rfl⟩
  case faulted =>
    rw [step_of_faulted hf hin, if_neg (by decide)]
    rfl

/-! `TSTEP` (R206). -/

theorem exec_tstep_of_le {s : State} {i : Nat} (h : s.iterCount ≤ i) :
    exec (.tstep i) s = .next (s.raise .scheduleExhausted (encode (.tstep i))) := by
  have hchecks : firstFault (commandChecks (.tstep i) s) = some .scheduleExhausted := by
    rw [commandChecks, checkTimestep_eq_some.2 ⟨h, rfl⟩, firstFault_some]
  rw [exec_eq_guarded, guarded_raises hchecks]

theorem exec_tstep_of_lt {s : State} {i : Nat} (h : i < s.iterCount) :
    exec (.tstep i) s = .next (s.setTimestep (s.dword .ts i)) := by
  rw [exec_eq_guarded, guarded_pass (by simpa [commandChecks] using h), commandBody, schedTimestep_of_lt h,
    Option.map_some, finish]

theorem State.setTimestep_of_some {d : Dword} {r : Int} (h : roundAway d = some r) (s : State) :
    s.setTimestep d = s.setRes (BitVec.ofInt 64 r) := by
  rw [State.setTimestep, h]

theorem State.setTimestep_of_none {d : Dword} (h : roundAway d = none) (s : State) :
    s.setTimestep d = s.countFree.setRes s.freeValue := by
  rw [State.setTimestep, h]

/-- Settles O34: `i` against `N` decides between the fault and the rounded entry. -/
theorem tstepRoundsTheTimestep : Obligations.TstepRoundsTheTimestep := by
  refine ⟨fun _ hop => (illegalWord_of_opcodesI (by rw [hop]; decide)).2,
    fun s i => ⟨exec_tstep_of_le, fun hi r hr => ?specified, fun hi hnone => ?free⟩⟩
  case specified =>
    rw [exec_tstep_of_lt hi, State.setTimestep_of_some hr]
    rfl
  case free =>
    refine ⟨_, exec_tstep_of_lt hi, ?_⟩
    rw [State.setTimestep_of_none hnone]
    rfl

end Sys2Proof.Machine
end

section
/-! Reset (R39, R290, R291). -/

namespace Sys2Proof.Machine

open Sys2Proof

/-- Settles O53: `STATUS` is put together of fields that are zero, whatever the capacities. -/
theorem resetValues : Obligations.ResetValues := by
  have hterm : State.reset.term = false := rfl
  have hstatus : State.reset.statusWord = 0x00000000 := by
    rw [State.statusWord, hterm]
    decide
  exact ⟨rfl, rfl, rfl, hterm, hstatus, rfl, rfl, rfl, rfl, rfl, rfl, rfl, rfl, rfl, rfl⟩

theorem step_of_reset {s : State} {rest : List Input} (hin : s.inputs = .reset :: rest) :
    step s = .next (s.popInput rest).doReset := by
  rw [step_of_inputs hin, takeInput]

/-- Settles O54: the reset state's fields, and the unfaulted dispatch of the command that comes next. -/
theorem resetEvent : Obligations.ResetEvent := by
  refine ⟨fun s rest hin => ⟨_, step_of_reset hin, rfl, rfl, rfl, rfl, rfl, rfl, rfl, rfl, rfl, rfl, rfl, rfl, rfl, rfl,
    rfl, fun w i hi => ?next⟩, step_of_no_inputs rfl⟩
  case next => exact step_of_decode rfl rfl hi

theorem Memory.within_nil (w size : Nat) : Memory.within [] w size :=
  ⟨⟨List.Pairwise.nil, nofun⟩, nofun⟩

/-- A reset of legal hardware meets the invariant: nothing is stored and nothing runs. -/
theorem State.inv_doReset {s : State} (hhw : s.hw.legal) : s.doReset.Inv where
  hardware := hhw
  memory := {
    bufs := fun b => by cases b <;> exact Memory.within_nil _ _
    scheds := fun t => by cases t <;> exact Memory.within_nil _ _ }
  undefinedIter _ := rfl
  faulted h := absurd rfl h
  unfaulted _ := rfl

/-- R7's constraints hold of the capacities after reset. -/
theorem reset_hw_legal : State.reset.hw.legal :=
  ⟨Nat.succ_pos _, Nat.succ_pos _, Config.nMaxPred.isLt⟩

/-- Settles O55: the state after reset is that of a reset event in it. -/
theorem resetMeetsTheInvariant : Obligations.ResetMeetsTheInvariant := State.inv_doReset reset_hw_legal

end Sys2Proof.Machine
end

section
/-! The rounding law (R125) and the zero draw (R186, R188). -/

namespace Sys2Proof.Machine

open Sys2Proof

/-- Settles O45: the law of `roundUnits`, in every format. -/
theorem roundingIsNearestEven : Obligations.RoundingIsNearestEven := fun _ _ num _ hfbits htop hden =>
  nearestMag_roundUnits hfbits htop hden num

/-! The nest of R186 at a zero draw, from the inside out. -/

theorem ln64_zero {d : Dword} {a : Bool} (h : val64 d = .fin a 0) (f : RealFns) : ln64 f d = inf64 true := by
  simp only [ln64, h, if_true]

theorem cos64_zero {d : Dword} {a : Bool} (h : val64 d = .fin a 0) (f : RealFns) : cos64 f d = ONE64 := by
  simp only [cos64, h, if_true]

theorem val64_NEG_TWO64 : val64 NEG_TWO64 = .fin true (2 ^ 1075) := by
  have hunits : unitsOfMag 52 0x4000000000000000 = 2 ^ (52 + 1023) := unitsOfMag_exponent 52 1023
  rw [← hunits]
  exact val64_pack64_finite (m := 0x4000000000000000) (by decide) true

theorem val64_TWO_PI64 : ∃ u, val64 TWO_PI64 = .fin false u :=
  ⟨_, val64_pack64_finite (m := 0x401921FB54442D18) (by decide) false⟩

theorem fsqrt64_inf64_false : fsqrt64 (inf64 false) = inf64 false := by
  simp [fsqrt64]

theorem val64_unit_zero : val64 (unit 0) = .fin false 0 := by
  rw [unit_zero, val64_zero]

/-- The radius of a zero first draw (R188). -/
theorem radius_zero_draw (f : RealFns) : fsqrt64 (fmul64 NEG_TWO64 (ln64 f (unit 0))) = inf64 false := by
  have hproduct : fmul64 NEG_TWO64 (inf64 true) = inf64 false := by
    rw [fmul64_fin_inf val64_NEG_TWO64 (val64_inf64 true), if_neg (pow_ne_zero _ two_ne_zero)]
    rfl
  rw [ln64_zero val64_unit_zero, hproduct, fsqrt64_inf64_false]

/-- Settles O31: an infinite radius times the cosine, by the cosine's class. -/
theorem zeroDrawGivesAnInfinity : Obligations.ZeroDrawGivesAnInfinity := by
  intro f u2 c sample
  have hsample : sample = d2h (fmul64 (inf64 false) c) := congrArg (fun x => d2h (fmul64 x c)) (radius_zero_draw f)
  refine ⟨fun a n hc hn => ?infinite, fun a hc => ?nan, ?secondDraw⟩
  case infinite =>
    rw [hsample, fmul64_inf_fin (val64_inf64 false) hc, if_neg hn, d2h_inf64]
    cases a <;> rfl
  case nan =>
    obtain ⟨-, -, -, -, -, -, -, hcanon⟩ := composedConversions
    rw [hsample, fmul64_inf_fin (val64_inf64 false) hc, if_pos rfl, hcanon]
  case secondDraw =>
    obtain ⟨u, hu⟩ := val64_TWO_PI64
    have hzero : fmul64 TWO_PI64 (unit 0) = zero64 false := by
      rw [fmul64_fin_fin hu val64_unit_zero, Nat.mul_zero, round64_zero]
      rfl
    have hcos : cos64 f (fmul64 TWO_PI64 (unit 0)) = ONE64 := by rw [hzero, cos64_zero (val64_zero64 false)]
    exact hcos

end Sys2Proof.Machine
end

section
/-! What a command may write (the columns "written by commands" of the register map and of the memory tables):
everything beside it is the same before and after, fault entry included. -/

namespace Sys2Proof.Machine

open Sys2Proof

/-- The state without what any command may write among the registers: the fault record, the run, `RES` and the count of
free values (R22, R23, R33). -/
def State.besideResults (s : State) : State :=
  { s with fault := .noFault, fcmd := 0, ivalid := false, iter := 0, res := 0, freeCount := 0 }

/-- The state without what the command `i` may write. -/
def State.beside (i : Instr) (s : State) : State :=
  match i with
  | .seed | .next => s.besideResults.setPrng ⟨0, 0, 0, 0⟩
  | .filln => (s.besideResults.setPrng ⟨0, 0, 0, 0⟩).setBuf .lat []
  | .dup | .presc | .stepc | .steps => s.besideResults.setBuf .lat []
  | .sview => s.besideResults.setBuf .scr []
  | .vscale => s.besideResults.setBuf .out []
  | .nop | .abort | .clrf | .enc _ | .dec _ | .sigma _ | .delta _ | .tstep _ => s.besideResults

theorem State.beside_raise (i : Instr) (s : State) (f : FaultCode) (w : Word) :
    (s.raise f w).beside i = s.beside i := by
  cases i <;> rfl

theorem State.beside_setRun (i : Instr) (s : State) (v : Bool) (k : BitVec 16) :
    (s.setRun v k).beside i = s.beside i := by
  cases i <;> rfl

theorem State.setTimestep_besideResults (d : Dword) (s : State) :
    (s.setTimestep d).besideResults = s.besideResults := by
  unfold State.setTimestep
  cases roundAway d <;> rfl

/-- Every body keeps what is beside its command's results. -/
theorem keeps_commandBody (i : Instr) : Keeps (State.beside i) (commandBody i) := by
  intro s t h
  cases i with
  | nop | abort | clrf | enc | dec | seed | next => exact Option.some.inj h ▸ rfl
  | filln =>
    exact Keeps.forElems (keeps_fillElem (fun _ _ => rfl) fun _ _ => rfl) _ _ s.seedPrng t h
  | dup => exact Keeps.forElems (keeps_dupElem (fun _ _ => rfl) s.elems) _ _ s t h
  | presc =>
    rw [commandBody] at h
    obtain ⟨s0, -, h⟩ := Option.bind_eq_some_iff.1 h
    exact Keeps.map (.forElems (keeps_prescElem (fun _ _ => rfl) s0) _ _) (fun u => u.beside_setRun .presc true 0) s t h
  | sview =>
    obtain ⟨sg, -, h⟩ := Option.bind_eq_some_iff.1 h
    exact Keeps.forElems (keeps_sviewElem (fun _ _ => rfl) (viewFactor sg) s.elems) _ _ s t h
  | stepc =>
    exact Keeps.guidedStep (fun delta => keeps_stepcElem (fun _ _ => rfl) s.gscale delta s.elems)
      (fun u v k => u.beside_setRun .stepc v k) s t h
  | steps =>
    exact Keeps.guidedStep (fun delta => keeps_stepsElem (fun _ _ => rfl) s.gscale delta)
      (fun u v k => u.beside_setRun .steps v k) s t h
  | vscale => exact Keeps.forElems (keeps_vscaleElem (fun _ _ => rfl) s.vaescale) _ _ s t h
  | sigma | delta =>
    obtain ⟨v, -, rfl⟩ := Option.map_eq_some_iff.1 h
    rfl
  | tstep =>
    obtain ⟨d, -, rfl⟩ := Option.map_eq_some_iff.1 h
    exact State.setTimestep_besideResults d s

/-- Every command keeps what is beside its results. -/
theorem exec_beside {i : Instr} {s t : State} (h : exec i s = .next t) : t.beside i = s.beside i := by
  obtain ⟨f, -, rfl⟩ | ⟨-, hbody⟩ := exec_raises_or_completes h
  · exact s.beside_raise i f (encode i)
  · exact keeps_commandBody i s t hbody

/-! What stands beside the results of each command. -/

/-- What is read beside the results of a command is the same after it. -/
theorem exec_keeps_of_beside {α : Type} {r : State → α} {i : Instr} {s t : State} (h : exec i s = .next t)
    (hr : ∀ u : State, r (u.beside i) = r u) : r t = r s := by
  rw [← hr t, exec_beside h, hr]

/-- What no command writes: the configuration, the operands, the descriptors, the memories of the host, and the model's
own fields but `freeCount`. -/
def State.hostOwned (s : State) : State :=
  { s.besideResults with prng := ⟨0, 0, 0, 0⟩, lat := [], scr := [], out := [] }

theorem State.hostOwned_beside (i : Instr) (s : State) : (s.beside i).hostOwned = s.hostOwned := by
  cases i <;> rfl

theorem exec_hostOwned {i : Instr} {s t : State} (h : exec i s = .next t) : t.hostOwned = s.hostOwned :=
  exec_keeps_of_beside h (State.hostOwned_beside i)

theorem exec_hw {i : Instr} {s t : State} (h : exec i s = .next t) : t.hw = s.hw :=
  exec_keeps_of_beside h fun _ => by cases i <;> rfl

theorem State.beside_prng {i : Instr} (hi : i ∉ [Instr.seed, .next, .filln]) (s : State) :
    (s.beside i).prng = s.prng := by
  cases i with
  | seed | next | filln => simp at hi
  | _ => rfl

theorem State.beside_lat {i : Instr} (hi : i ∉ [Instr.filln, .dup, .presc, .stepc, .steps]) (s : State) :
    (s.beside i).lat = s.lat := by
  cases i with
  | filln | dup | presc | stepc | steps => simp at hi
  | _ => rfl

theorem State.beside_scr {i : Instr} (hi : i ≠ .sview) (s : State) : (s.beside i).scr = s.scr := by
  cases i with
  | sview => exact absurd rfl hi
  | _ => rfl

theorem State.beside_out {i : Instr} (hi : i ≠ .vscale) (s : State) : (s.beside i).out = s.out := by
  cases i with
  | vscale => exact absurd rfl hi
  | _ => rfl

/-- Settles O14: what the host owns by all commands, the PRNG file and the three other memories by their own. -/
theorem commandsWriteOnlyTheirOwnState : Obligations.CommandsWriteOnlyTheirOwnState := by
  intro i s t h
  have howned := exec_hostOwned h
  simp only [State.hostOwned, State.besideResults, State.mk.injEq] at howned
  refine ⟨by simp only [howned, and_self], by simp only [howned, and_self], by simp only [howned, and_self],
    fun hi => exec_keeps_of_beside h (State.beside_prng hi), fun hi => exec_keeps_of_beside h (State.beside_lat hi),
    fun hi => exec_keeps_of_beside h (State.beside_scr hi), fun hi => exec_keeps_of_beside h (State.beside_out hi)⟩

end Sys2Proof.Machine
end

section
/-! The invariant of the block. Its three parts are kept by different means: the parameters stand beside every command's
results, the sequencing state changes as R253's table says, and the memories are written by checked accesses. -/

namespace Sys2Proof.Machine

open Sys2Proof

/-! The memories. -/

/-- A property of states that a computation keeps. -/
def Preserves (P : State → Prop) (f : State → Option State) : Prop := ∀ s t, P s → f s = some t → P t

namespace Preserves
variable {P : State → Prop}

theorem update {f : State → State} (hf : ∀ s, P s → P (f s)) : Preserves P fun s => some (f s) := by
  rintro s _ hs ⟨⟩
  exact hf s hs

/-- A value is read, and a computation chosen by it. -/
theorem bind {β : Type} {v : State → Option β} {g : β → State → Option State} (hg : ∀ x, Preserves P (g x)) :
    Preserves P fun s => (v s).bind fun x => g x s := by
  intro s t hs h
  obtain ⟨x, -, ht⟩ := Option.bind_eq_some_iff.1 h
  exact hg x s t hs ht

/-- One computation after another. -/
theorem andThen {f g : State → Option State} (hf : Preserves P f) (hg : Preserves P g) :
    Preserves P fun s => (f s).bind g := by
  intro s t hs h
  obtain ⟨u, hu, ht⟩ := Option.bind_eq_some_iff.1 h
  exact hg u t (hf s u hs hu) ht

/-- A computation, and an update of its result. -/
theorem map {f : State → Option State} {g : State → State} (hf : Preserves P f) (hg : ∀ s, P s → P (g s)) :
    Preserves P fun s => (f s).map g := by
  intro s t hs h
  obtain ⟨u, hu, rfl⟩ := Option.map_eq_some_iff.1 h
  exact hg u (hf s u hs hu)

theorem forElems {body : Nat → State → Option State} (hbody : ∀ k, Preserves P (body k)) (n k : Nat) :
    Preserves P (forElems body n k) := fun _ _ hs h =>
  forElems_keeps (fun _ => P) (fun j u v _ _ hu hv => hbody j u v hu hv) hs h

theorem guidedStep {elem : Dword → Nat → State → Option State} (helem : ∀ delta k, Preserves P (elem delta k))
    (hrun : ∀ s v i, P s → P (State.setRun v i s)) : Preserves P (guidedStep elem) :=
  .bind fun delta => .map (fun s => Preserves.forElems (helem delta) s.elems 0 s) fun u => hrun u u.ivalid (u.iter + 1)

end Preserves

/-- What leaves the memories and their sizes leaves them in form. -/
theorem State.MemoryOk.of_eq {s t : State} (hs : s.MemoryOk) (hbuf : ∀ b, t.buf b = s.buf b)
    (hsched : ∀ q, t.sched q = s.sched q) (hhw : t.hw = s.hw) : t.MemoryOk where
  bufs b := by rw [hbuf, hhw]; exact hs.bufs b
  scheds q := by rw [hsched, hhw]; exact hs.scheds q

theorem preserves_write16 (b : Buf) (i : Nat) (v : Half) : Preserves State.MemoryOk fun s => s.write16 b i v := by
  intro s t hs h
  obtain ⟨hi, rfl⟩ := State.write16_eq_some.1 h
  exact hs.setBuf_putHalf v hi

section
variable {s : State} (hs : s.MemoryOk)
include hs

theorem State.MemoryOk.setRes (v : Dword) : (s.setRes v).MemoryOk :=
  hs.of_eq (State.setRes_buf s v) (State.setRes_sched s v) rfl

theorem State.MemoryOk.setRun (v : Bool) (i : BitVec 16) : (s.setRun v i).MemoryOk :=
  hs.of_eq (State.setRun_buf s v i) (State.setRun_sched s v i) rfl

theorem State.MemoryOk.setPrng (p : PrngWords) : (s.setPrng p).MemoryOk :=
  hs.of_eq (State.setPrng_buf s p) (State.setPrng_sched s p) rfl

theorem State.MemoryOk.clearFault : s.clearFault.MemoryOk :=
  hs.of_eq (State.clearFault_buf s) (State.clearFault_sched s) rfl

theorem State.MemoryOk.raise (f : FaultCode) (w : Word) : (s.raise f w).MemoryOk :=
  hs.of_eq (State.raise_buf s f w) (State.raise_sched s f w) rfl

theorem State.MemoryOk.writeReg (r : Reg) (v : Dword) : (s.writeReg r v).MemoryOk :=
  hs.of_eq (State.writeReg_buf s r v) (State.writeReg_sched s r v) (State.writeReg_hw s r v)

theorem State.MemoryOk.countFree : s.countFree.MemoryOk :=
  hs.of_eq (State.countFree_buf s) (State.countFree_sched s) rfl

theorem State.MemoryOk.setTimestep (d : Dword) : (s.setTimestep d).MemoryOk := by
  unfold State.setTimestep
  cases roundAway d with
  | some r => exact hs.setRes _
  | none => exact hs.countFree.setRes _

/-- An element that the host writes lies inside its memory. -/
theorem State.MemoryOk.writeElem {m : MemName} {i : Nat} (hi : i < memSize s.hw m) (v : Dword) :
    (s.writeElem m i v).MemoryOk := by
  cases m with
  | buf b => exact hs.setBuf_putHalf _ hi
  | sched q => exact hs.setSched_putDword v hi

end

/-! The element turns write by checked accesses only, and so does every body. -/

theorem preserves_fillElem (k : Nat) : Preserves State.MemoryOk (fillElem k) := fun _ t hs h =>
  preserves_write16 .lat k _ _ t ((hs.setPrng _).setPrng _) h

theorem preserves_dupElem (e k : Nat) : Preserves State.MemoryOk (dupElem e k) :=
  .bind fun x => preserves_write16 .lat (e + k) x

theorem preserves_prescElem (s0 : Dword) (k : Nat) : Preserves State.MemoryOk (prescElem s0 k) :=
  .bind fun x => preserves_write16 .lat k (scaleHalf s0 x)

theorem preserves_sviewElem (inv : Dword) (e k : Nat) : Preserves State.MemoryOk (sviewElem inv e k) :=
  .bind fun x => .andThen (preserves_write16 .scr k (scaleHalf inv x))
    (preserves_write16 .scr (e + k) (scaleHalf inv x))

theorem preserves_stepcElem (gscale delta : Dword) (e k : Nat) :
    Preserves State.MemoryOk (stepcElem gscale delta e k) :=
  .bind fun p => .bind fun n => .bind fun x => preserves_write16 .lat k (stepElem gscale delta x p n)

theorem preserves_stepsElem (gscale delta : Dword) (k : Nat) : Preserves State.MemoryOk (stepsElem gscale delta k) :=
  .bind fun p => .bind fun n => .bind fun x => preserves_write16 .lat k (stepElem gscale delta x p n)

theorem preserves_vscaleElem (scale : Dword) (k : Nat) : Preserves State.MemoryOk (vscaleElem scale k) :=
  .bind fun x => preserves_write16 .out k (vaeElem scale x)

theorem preserves_commandBody (i : Instr) : Preserves State.MemoryOk (commandBody i) := by
  have hrun : ∀ s v i, State.MemoryOk s → (s.setRun v i).MemoryOk := fun _ v i hs => hs.setRun v i
  cases i with
  | nop => exact .update fun _ hs => hs
  | abort => exact .update fun _ hs => hs.setRun false 0
  | clrf => exact .update fun _ hs => hs.clearFault
  | enc | dec => exact .update fun _ hs => hs.setRes _
  | seed => exact .update fun _ hs => hs.setPrng _
  | next => exact .update fun _ hs => (hs.setPrng _).setRes _
  | filln => exact fun s t hs => Preserves.forElems preserves_fillElem _ _ s.seedPrng t (hs.setPrng _)
  | dup => exact fun s => Preserves.forElems (preserves_dupElem s.elems) _ _ s
  | presc =>
    exact .bind (v := schedSigma 0)
      (g := fun s0 s => (forElems (prescElem s0) s.elems 0 s).map fun s' => s'.setRun true 0)
      fun s0 => .map (fun s => Preserves.forElems (preserves_prescElem s0) s.elems 0 s) fun u => hrun u true 0
  | sview => exact .bind fun sg s => Preserves.forElems (preserves_sviewElem (viewFactor sg) s.elems) _ _ s
  | stepc => exact fun s => Preserves.guidedStep (fun delta => preserves_stepcElem s.gscale delta s.elems) hrun s
  | steps => exact fun s => Preserves.guidedStep (fun delta => preserves_stepsElem s.gscale delta) hrun s
  | vscale => exact fun s => Preserves.forElems (preserves_vscaleElem s.vaescale) _ _ s
  | sigma | delta =>
    intro s t hs h
    obtain ⟨v, -, rfl⟩ := Option.map_eq_some_iff.1 h
    exact hs.setRes v
  | tstep =>
    intro s t hs h
    obtain ⟨d, -, rfl⟩ := Option.map_eq_some_iff.1 h
    exact hs.setTimestep d

theorem exec_memoryOk {i : Instr} {s t : State} (hs : s.MemoryOk) (h : exec i s = .next t) : t.MemoryOk := by
  obtain ⟨f, -, rfl⟩ | ⟨-, hbody⟩ := exec_raises_or_completes h
  · exact hs.raise f (encode i)
  · exact preserves_commandBody i s t hs hbody

/-! The sequencing state. -/

/-- The part of the invariant about `IVALID`, `ITER`, `FAULT` and `FCMD`. -/
structure Sequencing.Ok (q : Sequencing) : Prop where
  undefinedIter : q.ivalid = false → q.iter = 0
  faulted : q.fault ≠ .noFault → q.ivalid = false
  unfaulted : q.fault = .noFault → q.fcmd = 0

/-- The invariant by its three parts. -/
theorem State.inv_iff {s : State} : s.Inv ↔ s.hw.legal ∧ s.MemoryOk ∧ s.sequencing.Ok :=
  ⟨fun h => ⟨h.hardware, h.memory, h.undefinedIter, h.faulted, h.unfaulted⟩,
    fun ⟨hhw, hmem, hiter, hfaulted, hunfaulted⟩ => ⟨hhw, hmem, hiter, hfaulted, hunfaulted⟩⟩

theorem State.raise_sequencing_ok {f : FaultCode} (hf : f ≠ .noFault) (w : Word) (s : State) :
    (s.raise f w).sequencing.Ok where
  undefinedIter _ := rfl
  faulted _ := rfl
  unfaulted h := absurd h hf

theorem State.clearFault_sequencing_ok {s : State} (hs : s.sequencing.Ok) : s.clearFault.sequencing.Ok where
  undefinedIter := hs.undefinedIter
  faulted h := absurd rfl h
  unfaulted _ := rfl

/-- R253's table keeps the unfaulted state in form; the step commands run with a defined iteration only. -/
theorem Sequencing.Ok.after {q : Sequencing} (hq : q.Ok) (hf : q.fault = .noFault) {i : Instr}
    (hstep : i = .stepc ∨ i = .steps → q.ivalid = true) : (q.after i).Ok where
  undefinedIter h := by
    cases i with
    | stepc | steps =>
      have hdef : q.ivalid = true := hstep (by simp)
      exact absurd (hdef.symm.trans h) (by decide)
    | presc => cases h
    | abort => rfl
    | _ => exact hq.undefinedIter h
  faulted h := absurd (Sequencing.after_fault hf i) h
  unfaulted _ := by
    cases i with
    | clrf => rfl
    | _ => exact hq.unfaulted hf

/-- A step command's checks ask for a defined iteration. -/
theorem ivalid_of_commandChecks {i : Instr} {s : State} (hpass : ∀ c ∈ commandChecks i s, c = none)
    (hi : i = .stepc ∨ i = .steps) : s.ivalid = true := by
  refine checkIterDefined_eq_none.1 (hpass _ ?_)
  obtain rfl | rfl := hi <;> simp [commandChecks, stepChecks]

theorem exec_sequencing_ok {i : Instr} {s t : State} (hs : s.sequencing.Ok) (hf : s.fault = .noFault)
    (h : exec i s = .next t) : t.sequencing.Ok := by
  obtain ⟨f, hne, rfl⟩ | ⟨hpass, hbody⟩ := exec_raises_or_completes h
  · exact State.raise_sequencing_ok hne _ s
  · rw [commandBody_sequencing hbody]
    exact hs.after hf (ivalid_of_commandChecks hpass)

/-! The step. -/

theorem State.Inv.of_parts {s t : State} (hs : s.Inv) (hmem : t.MemoryOk) (hhw : t.hw = s.hw)
    (hseq : t.sequencing.Ok) : t.Inv ∧ t.hw = s.hw :=
  ⟨State.inv_iff.2 ⟨hhw ▸ hs.hardware, hmem, hseq⟩, hhw⟩

theorem hostCommand_keeps_inv {w : Word} {s t : State} (hs : s.Inv) (h : hostCommand w s = .next t) :
    t.Inv ∧ t.hw = s.hw := by
  obtain ⟨-, hmem, hseq⟩ := State.inv_iff.1 hs
  by_cases hf : s.fault = .noFault
  · rw [hostCommand, if_neg (not_not.2 hf)] at h
    cases hd : decode w with
    | ok i =>
      rw [hd] at h
      exact hs.of_parts (exec_memoryOk hmem h) (exec_hw h) (exec_sequencing_ok hseq hf h)
    | error e =>
      rw [hd] at h
      obtain rfl := Host.Outcome.next.inj h
      exact hs.of_parts (hmem.raise ..) rfl (s.raise_sequencing_ok (by decide) w)
  · obtain rfl | rfl := hostCommand_of_faulted hf h
    · exact ⟨hs, rfl⟩
    · exact hs.of_parts hmem.clearFault rfl (State.clearFault_sequencing_ok hseq)

/-! What an input can do (R60, R77): a primitive that is not refused makes its access. -/

theorem hostWriteReg_next {no : Nat} {v : Dword} {s t : State} (h : hostWriteReg no v s = .next t) :
    hostCommand (v.setWidth 32) s = .next t ∨ ∃ r, s.writeReg r v = t := by
  unfold hostWriteReg at h
  cases hr : regOfNumber no with
  | none => rw [hr] at h; cases h
  | some r =>
    rw [hr] at h
    dsimp only at h
    split_ifs at h
    · exact .inl h
    · exact .inr ⟨r, Host.Outcome.next.inj h⟩

theorem hostReadReg_next {no : Nat} {s t : State} (h : hostReadReg no s = .next t) :
    ∃ d, { s with reply := some d } = t := by
  unfold hostReadReg at h
  cases hr : regOfNumber no with
  | none => rw [hr] at h; cases h
  | some r =>
    rw [hr] at h
    dsimp only at h
    split_ifs at h
    exact ⟨_, Host.Outcome.next.inj h⟩

theorem hostWriteBuf_next {m : MemName} {i : Nat} {v : Dword} {s t : State} (h : hostWriteBuf m i v s = .next t) :
    i < memSize s.hw m ∧ s.writeElem m i v = t := by
  unfold hostWriteBuf at h
  split_ifs at h with hwritable hsize
  exact ⟨not_le.1 hsize, Host.Outcome.next.inj h⟩

theorem hostReadBuf_next {m : MemName} {i : Nat} {s t : State} (h : hostReadBuf m i s = .next t) :
    ∃ d, { s with reply := some d } = t := by
  unfold hostReadBuf at h
  split_ifs at h
  exact ⟨_, Host.Outcome.next.inj h⟩

theorem State.writeReg_sequencing (r : Reg) (v : Dword) (s : State) :
    (s.writeReg r v).sequencing = s.sequencing := by
  cases r <;> rfl

theorem State.writeElem_sequencing (m : MemName) (i : Nat) (v : Dword) (s : State) :
    (s.writeElem m i v).sequencing = s.sequencing := by
  rcases m with b | q
  · exact s.setBuf_sequencing b _
  · cases q <;> rfl

theorem State.MemoryOk.setReply {s : State} (hs : s.MemoryOk) (d : Dword) :
    State.MemoryOk { s with reply := some d } :=
  hs.of_eq (fun b => by cases b <;> rfl) (fun q => by cases q <;> rfl) rfl

theorem takeInput_keeps_inv {x : Input} {s t : State} (hs : s.Inv) (h : takeInput x s = .next t) :
    t.Inv ∧ t.hw = s.hw := by
  obtain ⟨-, hmem, hseq⟩ := State.inv_iff.1 hs
  cases x with
  | writeReg no v =>
    obtain hcommand | ⟨r, rfl⟩ := hostWriteReg_next h
    · exact hostCommand_keeps_inv hs hcommand
    · exact hs.of_parts (hmem.writeReg r v) (s.writeReg_hw r v) (s.writeReg_sequencing r v ▸ hseq)
  | readReg no =>
    obtain ⟨d, rfl⟩ := hostReadReg_next h
    exact hs.of_parts (hmem.setReply d) rfl hseq
  | writeBuf m i v =>
    obtain ⟨hi, rfl⟩ := hostWriteBuf_next h
    exact hs.of_parts (hmem.writeElem hi v) (s.writeElem_hw m i v) (s.writeElem_sequencing m i v ▸ hseq)
  | readBuf m i =>
    obtain ⟨d, rfl⟩ := hostReadBuf_next h
    exact hs.of_parts (hmem.setReply d) rfl hseq
  | reset =>
    obtain rfl := Host.Outcome.next.inj h
    exact ⟨State.inv_doReset hs.hardware, rfl⟩

theorem State.Inv.popInput {s : State} (hs : s.Inv) (rest : List Input) : (s.popInput rest).Inv :=
  ⟨hs.hardware, hs.memory.popInput rest, hs.undefinedIter, hs.faulted, hs.unfaulted⟩

/-- Settles O56: a step idles, or takes an input in a state that differs from its own in the model's fields only. -/
theorem stepKeepsTheInvariant : Obligations.StepKeepsTheInvariant := by
  intro s t hs h
  cases hin : s.inputs with
  | nil =>
    obtain rfl := Host.Outcome.next.inj ((step_of_no_inputs hin).symm.trans h)
    exact ⟨hs, rfl⟩
  | cons x rest =>
    obtain ⟨hinv, hhw⟩ := takeInput_keeps_inv (hs.popInput rest) ((step_of_inputs hin).symm.trans h)
    exact ⟨hinv, hhw⟩

end Sys2Proof.Machine
end

section
/-! `LN64` and `COS64` (R135, R136). The evaluated default needs bounds on its series: the logarithm of a value below 1
is not positive since `ln m` stays below `ln 2`, and the cosine is at most 1 since its series alternates with falling
terms. -/

namespace Sys2Proof.Machine

open Sys2Proof

/-! A rounded magnitude between two patterns. -/

section
variable {fbits infMag num den k : Nat}

theorem le_roundUnits (hf : 1 ≤ fbits) (hden : 0 < den) (hk : k ≤ infMag) (h : den * unitsOfMag fbits k ≤ num) :
    k ≤ roundUnits fbits infMag num den := by
  obtain ⟨m, hm, hround⟩ := exists_roundsTo_roundUnits hf hden infMag num
  rw [hround]
  exact le_min ((roundsTo_unitsOfMag hden k).mono hden hm h) hk

theorem roundUnits_le_of_le (hf : 1 ≤ fbits) (hden : 0 < den) (h : num ≤ den * unitsOfMag fbits k) :
    roundUnits fbits infMag num den ≤ k := by
  obtain ⟨m, hm, hround⟩ := exists_roundsTo_roundUnits hf hden infMag num
  rw [hround]
  exact (min_le_left _ _).trans (hm.mono hden (roundsTo_unitsOfMag hden k) h)

end

/-- The value of the magnitude pattern of 1. -/
theorem unitsOfMag_one : unitsOfMag 52 (1023 * 2 ^ 52) = 2 ^ 1074 := by
  rw [unitsOfMag_exponent 52 1022]

/-- An enclosure that decides lies above zero and answers the pattern of its lower end. -/
theorem roundEnclosed_eq_some {neg : Bool} {p x margin : Nat} {d : Dword} (h : roundEnclosed neg p x margin = some d) :
    margin < x ∧ d = pack64 neg (roundUnits 52 infMag64 ((x - margin) * 2 ^ 1074) (2 ^ p)) := by
  unfold roundEnclosed at h
  split_ifs at h with hle
  extract_lets lo hi at h
  split_ifs at h
  exact ⟨not_le.1 hle, (Option.some.inj h).symm⟩

/-- What holds of an answer and of the value in its place holds of the one taken. -/
theorem getD_of_forall {α : Type} {P : α → Prop} {o : Option α} {d : α} (ho : ∀ x, o = some x → P x) (hd : P d) :
    P (o.getD d) := by
  cases o with
  | none => exact hd
  | some x => exact ho x rfl

/-! The series of the logarithm. -/

/-- The sum grows with each of its arguments. -/
theorem artanhSum_mono {p z2 z2' : Nat} (hz : z2 ≤ z2') (n : Nat) {pw pw' acc acc' : Nat} (j : Nat) (hpw : pw ≤ pw')
    (hacc : acc ≤ acc') : artanhSum n p z2 pw j acc ≤ artanhSum n p z2' pw' j acc' := by
  induction n generalizing pw pw' j acc acc' with
  | zero => exact hacc
  | succ n ih =>
    exact ih _ (Nat.div_le_div_right (Nat.mul_le_mul hpw hz)) (Nat.add_le_add hacc (Nat.div_le_div_right hpw))

/-- No term exceeds the first. -/
theorem artanhSum_le {p z2 : Nat} (hz : z2 ≤ 2 ^ p) (n pw j acc : Nat) :
    artanhSum n p z2 pw j acc ≤ acc + n * pw := by
  induction n generalizing pw j acc with
  | zero => exact Nat.le_add_right _ _
  | succ n ih =>
    have hnext : pw * z2 / 2 ^ p ≤ pw := Nat.div_le_of_le_mul (by rw [Nat.mul_comm]; exact Nat.mul_le_mul_right _ hz)
    have hterm : pw / j ≤ pw := Nat.div_le_self _ _
    calc artanhSum (n + 1) p z2 pw j acc ≤ acc + pw / j + n * (pw * z2 / 2 ^ p) := ih _ _ _
      _ ≤ acc + pw + n * pw := by gcongr
      _ = acc + (n + 1) * pw := by ring

theorem artanhFix_le_third {p num den : Nat} (h : 3 * num ≤ den) : artanhFix p num den ≤ artanhFix p 1 3 := by
  have hz : num * 2 ^ p / den ≤ 1 * 2 ^ p / 3 := by
    rw [Nat.le_div_iff_mul_le (by decide)]
    calc num * 2 ^ p / den * 3 ≤ 3 * num * 2 ^ p / den := by
          rw [Nat.mul_comm, Nat.mul_assoc]
          exact Nat.mul_div_le_mul_div_assoc ..
      _ ≤ 1 * 2 ^ p := Nat.div_le_of_le_mul (by rw [Nat.one_mul]; exact Nat.mul_le_mul_right _ h)
  exact artanhSum_mono (Nat.div_le_div_right (Nat.mul_le_mul hz hz)) 90 1 hz le_rfl

theorem artanhFix_third_le (p : Nat) : artanhFix p 1 3 ≤ 90 * 2 ^ p := by
  have hz : 1 * 2 ^ p / 3 ≤ 2 ^ p := by omega
  have hz2 : 1 * 2 ^ p / 3 * (1 * 2 ^ p / 3) / 2 ^ p ≤ 2 ^ p := Nat.div_le_of_le_mul (Nat.mul_le_mul hz hz)
  have hsum := artanhSum_le hz2 90 (1 * 2 ^ p / 3) 1 0
  exact hsum.trans (by omega)

/-- The fixed-point logarithm that `lnRounded` rounds, of `u` units of `2^-1074`, in units of `2^-256`. -/
def lnFix (u : Nat) : Int :=
  ((Nat.log2 u : Int) - 1074) * ((2 * artanhFix 256 1 3 : Nat) : Int) +
    ((2 * artanhFix 256 (u - 2 ^ Nat.log2 u) (u + 2 ^ Nat.log2 u) : Nat) : Int)

theorem lnRounded_eq (u : Nat) :
    lnRounded u = roundEnclosed (decide (lnFix u < 0)) 256 (lnFix u).natAbs (2 ^ 24) := rfl

/-- With `u = 2^l * m`, `1 <= m < 2`, the part `ln m` is at most `ln 2`. -/
theorem artanhFix_significand_le (p u : Nat) :
    artanhFix p (u - 2 ^ Nat.log2 u) (u + 2 ^ Nat.log2 u) ≤ artanhFix p 1 3 := by
  have hlt : u < 2 * 2 ^ Nat.log2 u := by
    rw [← Nat.pow_succ']
    exact Nat.lt_log2_self
  exact artanhFix_le_third (by omega)

/-- Below 1 the logarithm is not positive, and not below `-2^18`. -/
theorem lnFix_bounds {u : Nat} (hpos : u ≠ 0) (hu : u < 2 ^ 1074) :
    lnFix u ≤ 0 ∧ (lnFix u).natAbs ≤ 2 ^ 18 * 2 ^ 256 := by
  have hlog : Nat.log2 u < 1074 := by
    by_contra hge
    exact hu.not_ge ((pow_le_pow_right₀ one_le_two (not_lt.1 hge)).trans (Nat.log2_self_le hpos))
  clear hu
  have hfrac := artanhFix_significand_le 256 u
  have hthird := artanhFix_third_le 256
  unfold lnFix
  generalize artanhFix 256 (u - 2 ^ Nat.log2 u) (u + 2 ^ Nat.log2 u) = frac at hfrac ⊢
  generalize artanhFix 256 1 3 = third at hfrac hthird ⊢
  generalize Nat.log2 u = l at hlog ⊢
  have hhigh : ((l : Int) - 1074) * ((2 * third : Nat) : Int) ≤ (-1) * ((2 * third : Nat) : Int) :=
    Int.mul_le_mul_of_nonneg_right (by omega) (by omega)
  have hlow : (-1074) * ((2 * third : Nat) : Int) ≤ ((l : Int) - 1074) * ((2 * third : Nat) : Int) :=
    Int.mul_le_mul_of_nonneg_right (by omega) (by omega)
  constructor <;> omega

/-! `LN64` below 1. -/

/-- A finite negative value other than zero. -/
def NegativeFinite (d : Dword) : Prop := ∃ v, v ≠ 0 ∧ val64 d = .fin true v

theorem negativeFinite_pack64 {m : Nat} (hpos : 0 < m) (hm : m < infMag64) : NegativeFinite (pack64 true m) := by
  refine ⟨_, ?_, val64_pack64_finite hm true⟩
  have hmono := unitsOfMag_strictMono 52 hpos
  exact Nat.ne_of_gt (Nat.zero_lt_of_lt hmono)

/-- The default's logarithm, where its enclosure decides. -/
theorem negativeFinite_lnRounded {u : Nat} (hpos : u ≠ 0) (hu : u < 2 ^ 1074) {d : Dword}
    (h : lnRounded u = some d) : NegativeFinite d := by
  rw [lnRounded_eq] at h
  obtain ⟨hmargin, rfl⟩ := roundEnclosed_eq_some h
  obtain ⟨hnonpos, habs⟩ := lnFix_bounds hpos hu
  have hneg : lnFix u < 0 := by omega
  rw [decide_eq_true hneg]
  have hone : unitsOfMag 52 1 = 1 := by decide
  have htop : unitsOfMag 52 (1041 * 2 ^ 52) = 2 ^ (52 + 1040) := unitsOfMag_exponent 52 1040
  have hscale : 2 ^ 256 * 2 ^ (52 + 1040) = 2 ^ 18 * 2 ^ 256 * 2 ^ 1074 := by
    rw [← pow_add, ← pow_add, ← pow_add]
  have hlo : 1 ≤ roundUnits 52 infMag64 (((lnFix u).natAbs - 2 ^ 24) * 2 ^ 1074) (2 ^ 256) := by
    refine le_roundUnits (by decide) (by positivity) (by decide) ?_
    rw [hone, Nat.mul_one, ← Nat.one_mul (2 ^ 256)]
    gcongr
    · exact Nat.sub_pos_of_lt hmargin
    · decide
    · decide
  have hhi : roundUnits 52 infMag64 (((lnFix u).natAbs - 2 ^ 24) * 2 ^ 1074) (2 ^ 256) ≤ 1041 * 2 ^ 52 := by
    refine roundUnits_le_of_le (by decide) (by positivity) ?_
    rw [htop, hscale]
    exact Nat.mul_le_mul_right _ ((Nat.sub_le _ _).trans habs)
  exact negativeFinite_pack64 hlo (hhi.trans_lt (by decide))

/-- The free values below 1. -/
theorem negativeFinite_lnFree {d : Dword} (h : d.toNat < ONE64.toNat) : NegativeFinite (lnFree d) := by
  have hfree := (Config.lnBelowOne d).isLt
  rw [lnFree, if_pos h]
  exact negativeFinite_pack64 (Nat.succ_pos _) (by unfold infMag64; omega)

/-- A positive value below 1 has a pattern below that of 1. -/
theorem toNat_lt_ONE64 {d : Dword} {u : Nat} (hd : val64 d = .fin false u) (hu : u < 2 ^ 1074) :
    d.toNat < ONE64.toNat := by
  obtain ⟨m, hm, rfl, rfl⟩ := eq_of_val64_fin hd
  have hlt : m < 1023 * 2 ^ 52 := by
    rwa [← (unitsOfMag_strictMono 52).lt_iff_lt, unitsOfMag_one]
  rw [pack64, toNat_sign_append false (hm.trans (by decide)), Bool.toNat_false, Nat.zero_mul, Nat.zero_add]
  exact hlt

/-- R135 between 0 and 1, for the default and for any other logarithm. -/
theorem negativeFinite_ln64 {d : Dword} {u : Nat} (hd : val64 d = .fin false u) (hpos : u ≠ 0) (hu : u < 2 ^ 1074)
    (f : RealFns) : NegativeFinite (ln64 f d) := by
  have hlt := toNat_lt_ONE64 hd hu
  have hone : d ≠ ONE64 := fun h => hlt.ne (congrArg BitVec.toNat h)
  have hfree := negativeFinite_lnFree hlt
  simp only [ln64, hd, if_neg hpos, if_neg hone]
  cases f with
  | correctlyRounded => exact getD_of_forall (fun _ => negativeFinite_lnRounded hpos hu) hfree
  | other => exact hfree

/-! The series of the cosine. -/

/-- No term exceeds the first, and each is less than half of the one before. -/
theorem arctanInv_le {k2 : Nat} (hk : 2 ≤ k2) (n pw j acc : Nat) : arctanInv n k2 pw j acc ≤ acc + 2 * pw := by
  induction n generalizing pw j acc with
  | zero => exact Nat.le_add_right _ _
  | succ n ih =>
    have hterm : pw / j - pw / k2 / (j + 2) ≤ pw := (Nat.sub_le _ _).trans (Nat.div_le_self _ _)
    have hnext : 2 * (pw / k2 / k2) ≤ pw :=
      calc 2 * (pw / k2 / k2) ≤ k2 * (pw / k2 / k2) := Nat.mul_le_mul_right _ hk
        _ ≤ pw / k2 := Nat.mul_div_le _ _
        _ ≤ pw := Nat.div_le_self _ _
    calc arctanInv (n + 1) k2 pw j acc ≤ acc + (pw / j - pw / k2 / (j + 2)) + 2 * (pw / k2 / k2) := ih _ _ _
      _ ≤ acc + pw + pw := by gcongr
      _ = acc + 2 * pw := by ring

/-- A coarse bound on pi: `6.4`. -/
theorem piFix_le (p : Nat) : 5 * piFix p ≤ 32 * 2 ^ p := by
  have harctan := arctanInv_le (k2 := 25) (by decide) (p / 8) (2 ^ p / 5) 1 0
  unfold piFix
  omega

/-- The falling terms of an alternating series: while the positive terms exceed the negative ones by at most `B` with
the next term added, the sum stays at most `B`. -/
theorem cosSum_le {p r2 B : Nat} (hr : r2 ≤ 12 * 2 ^ p) (n : Nat) {t j pos neg : Nat} (h : pos + t ≤ neg + B) :
    cosSum n p r2 t j pos neg ≤ B := by
  induction n generalizing t j pos neg with
  | zero => exact Nat.sub_le_iff_le_add'.2 ((Nat.le_add_right _ _).trans h)
  | succ n ih =>
    rw [cosSum]
    generalize t * r2 / 2 ^ p / ((j + 1) * (j + 2)) = t1
    have hscaled : t1 * r2 / 2 ^ p ≤ 12 * t1 := Nat.div_le_of_le_mul <|
      calc t1 * r2 ≤ t1 * (12 * 2 ^ p) := Nat.mul_le_mul_left _ hr
        _ = 2 ^ p * (12 * t1) := by ring
    have hfalls : t1 * r2 / 2 ^ p / ((j + 3) * (j + 4)) ≤ t1 := Nat.div_le_of_le_mul <|
      hscaled.trans (Nat.mul_le_mul_right _ (Nat.mul_le_mul (by omega : 3 ≤ j + 3) (by omega : 4 ≤ j + 4)))
    exact ih (by omega)

/-- The argument folded by symmetry, first at pi and then at pi/2. -/
def cosFold (pi r : Nat) : Nat :=
  if pi < 2 * (if pi < r then 2 * pi - r else r) then pi - (if pi < r then 2 * pi - r else r)
  else if pi < r then 2 * pi - r else r

theorem two_mul_cosFold_le (pi r : Nat) : 2 * cosFold pi r ≤ pi := by
  unfold cosFold
  split_ifs <;> omega

/-- The fixed-point cosine that `cosRounded` rounds is at most 1. -/
theorem cosSum_cosFold_le (n p x : Nat) :
    cosSum n p (cosFold (piFix p) x * cosFold (piFix p) x / 2 ^ p) (2 ^ p) 0 0 0 ≤ 2 ^ p := by
  have hfold := two_mul_cosFold_le (piFix p) x
  have hpi := piFix_le p
  have hr : 10 * cosFold (piFix p) x ≤ 32 * 2 ^ p := by omega
  have hsquare := Nat.mul_le_mul hr hr
  refine cosSum_le (Nat.div_le_of_le_mul ?_) n (by omega)
  nlinarith

theorem cosRounded_eq (u : Nat) : ∃ neg p x margin, cosRounded u =
    roundEnclosed neg p (cosSum (p / 8) p (cosFold (piFix p) x * cosFold (piFix p) x / 2 ^ p) (2 ^ p) 0 0 0) margin :=
  ⟨_, _, _, _, rfl⟩

/-! `COS64` at finite operands. -/

/-- A finite value from -1 to 1. -/
def InUnitInterval (d : Dword) : Prop := ∃ b v, val64 d = .fin b v ∧ v ≤ 2 ^ 1074

theorem inUnitInterval_pack64 {m : Nat} (hm : m ≤ 1023 * 2 ^ 52) (a : Bool) : InUnitInterval (pack64 a m) := by
  refine ⟨_, _, val64_pack64_finite (hm.trans_lt (by decide)) a, ?_⟩
  exact ((unitsOfMag_strictMono 52).monotone hm).trans_eq unitsOfMag_one

theorem inUnitInterval_ONE64 : InUnitInterval ONE64 := ⟨_, _, val64_ONE64, le_rfl⟩

/-- The default's cosine, where its enclosure decides. -/
theorem inUnitInterval_cosRounded {u : Nat} {d : Dword} (h : cosRounded u = some d) : InUnitInterval d := by
  obtain ⟨neg, p, x, margin, hcos⟩ := cosRounded_eq u
  rw [hcos] at h
  obtain ⟨-, rfl⟩ := roundEnclosed_eq_some h
  refine inUnitInterval_pack64 ?_ neg
  apply roundUnits_le_of_le (by decide) (Nat.two_pow_pos p)
  rw [unitsOfMag_one]
  exact Nat.mul_le_mul_right _ ((Nat.sub_le _ _).trans (cosSum_cosFold_le _ p x))

/-- The free values. -/
theorem inUnitInterval_cosFree (d : Dword) : InUnitInterval (cosFree d) :=
  inUnitInterval_pack64 (Nat.le_of_lt_succ (Config.cosMagnitude d).isLt) _

/-- R136 at a finite operand, for the default and for any other cosine. -/
theorem inUnitInterval_cos64 {d : Dword} {a : Bool} {u : Nat} (hd : val64 d = .fin a u) (f : RealFns) :
    InUnitInterval (cos64 f d) := by
  simp only [cos64, hd]
  split_ifs with hu
  · exact inUnitInterval_ONE64
  · cases f with
    | correctlyRounded => exact getD_of_forall (fun _ => inUnitInterval_cosRounded) (inUnitInterval_cosFree d)
    | other => exact inUnitInterval_cosFree d

/-! The special operands. -/

theorem ln64_nan {d : Dword} (h : val64 d = .nan) (f : RealFns) : ln64 f d = canonNaN64 := by
  simp only [ln64, h]

theorem ln64_inf {d : Dword} {a : Bool} (h : val64 d = .inf a) (f : RealFns) :
    ln64 f d = if a then canonNaN64 else inf64 false := by
  simp only [ln64, h]

theorem ln64_negative {d : Dword} {u : Nat} (h : val64 d = .fin true u) (hu : u ≠ 0) (f : RealFns) :
    ln64 f d = canonNaN64 := by
  simp only [ln64, h, if_neg hu, if_true]

theorem ln64_ONE64 (f : RealFns) : ln64 f ONE64 = zero64 false := by
  have hpos : (2 : Nat) ^ 1074 ≠ 0 := pow_ne_zero _ two_ne_zero
  simp only [ln64, val64_ONE64, if_neg hpos, Bool.false_eq_true, if_false, if_true]

theorem cos64_nan {d : Dword} (h : val64 d = .nan) (f : RealFns) : cos64 f d = canonNaN64 := by
  simp only [cos64, h]

theorem cos64_inf {d : Dword} {a : Bool} (h : val64 d = .inf a) (f : RealFns) : cos64 f d = canonNaN64 := by
  simp only [cos64, h]

/-- Settles O52: the special operands by the functions' own branches, the others by the bounds on the enclosures and on
the free values. -/
theorem logarithmAndCosineProperties : Obligations.LogarithmAndCosineProperties := by
  intro f
  have hinf (a : Bool) := ln64_inf (val64_inf64 a) f
  exact ⟨ln64_zero (val64_zero64 false) f, ln64_zero (val64_zero64 true) f, ln64_ONE64 f, hinf false, hinf true,
    cos64_zero (val64_zero64 false) f, cos64_zero (val64_zero64 true) f,
    fun d hd => ⟨ln64_nan hd f, cos64_nan hd f⟩, fun d a hd => cos64_inf hd f, fun d u hd hu => ln64_negative hd hu f,
    fun d u hd hpos hu => negativeFinite_ln64 hd hpos.ne' hu f, fun d a u hd => inUnitInterval_cos64 hd f⟩

end Sys2Proof.Machine
end
